-- ==== Sys2Proof/Word.lean ====
section
/-! DEFINITION. The two words that cross the block's interface: bytes, and the 32-bit operand and statistics words (R51,
R107). Every other quantity of the spec is a mathematical integer unless its rule gives a width (R12). -/

namespace Sys2Proof

/-- A byte of a packed row, of the bitstream or of a host buffer (R77). -/
abbrev Byte := BitVec 8

/-- An operand word `arg[31:0]` (R107) or a statistics word (R51). -/
abbrev Word := BitVec 32

end Sys2Proof
end

