-- ==== Sys2Proof/Config.lean ====
section
/-! DEFINITION. What an implementation fixes: the constants of R9, the open parameters as data (`Params`), and the answers
the spec leaves to an oracle (R13, R313), which are constants without a body. -/

namespace Sys2Proof

/-- The parameters of R9 and of `93_implementation_defined.md` part 1 that "the model takes as an argument". `exec` and
`step` take a state and nothing else, so the machine's state carries them; no instruction writes them (log 6). -/
structure Params where
  /-- `W_MAX`, the largest width accepted (R9, D38). -/
  wMax : Nat
  /-- `K_TABLE`: pairs of a y-resolution code and its K (R176). -/
  kTable : List (Nat × Nat)
  /-- K of a y-resolution code outside the table (R176, R285). -/
  kDefault : Nat
  /-- `RUN_MARGIN`, the extra RunArray entries (R9, R216). -/
  runMargin : Nat
  /-- `IMG_GROW_ROWS` (R9, R81). -/
  imgGrowRows : Nat
  /-- `OUT_GROW_BYTES` (R9, R82). -/
  outGrowBytes : Nat
deriving DecidableEq, Repr

/-- What a call of the row source answers, when no script says so: a row, the end of the page, or a read error (R313). -/
inductive RowKind where
  | row
  | endOfPage
  | readError
deriving DecidableEq, Repr, Inhabited

namespace Config

/-- FREE VALUE: how far `W_MAX` lies above its least admissible value 2700 (R9, D38; log 7). -/
opaque wMaxSlack : Nat

/-- FREE VALUE: the allocator's answer to the encoder's n-th growth, where no script says so (R9 `ALLOC`, D28; log 8). -/
opaque txAllocAnswer : Nat → Bool

/-- FREE VALUE: the allocator's answer to the decoder's n-th growth, where no script says so (R9 `ALLOC`, D28; log 8). -/
opaque rxAllocAnswer : Nat → Bool

/-- FREE VALUE: the kind of the row source's n-th answer of a page, where no script says so: first the page, then n (R313;
log 9). -/
opaque rowKind : Nat → Nat → RowKind

/-- FREE VALUE: byte j of the row that the row source's n-th answer of a page holds, where no script says so: the page, n, j
(R313; log 9). -/
opaque rowByte : Nat → Nat → Nat → Byte

/-- `WIN_MIN`: the valid bits the decoder needs before a decision (R9, R202). -/
def winMin : Nat := 13

/-- `MAKEUP_STEP` (R9, R104). -/
def makeupStep : Nat := 64

/-- `MAKEUP_MAX`, the largest make-up code (R9, R160). -/
def makeupMax : Nat := 2560

/-- The bound that no run and no row total may reach (R12, R333). -/
def runLimit : Nat := 2 ^ 31

/-- The bound that no counter of R333 and no statistics word may reach. -/
def wordLimit : Nat := 2 ^ 32

/-- The decided default of the parameters (R9, R176); `W_MAX` has none, so it is 2700 or more. -/
def params : Params where
  wMax := wMaxSlack + 2700
  kTable := [(100, 2), (200, 4), (300, 6), (400, 8), (600, 12), (800, 16), (1200, 24)]
  kDefault := 2
  runMargin := 8
  imgGrowRows := 100
  outGrowBytes := 4096

end Config

end Sys2Proof
end

