-- ==== Sys2Proof/Syntax.lean ====
section
/-! DEFINITION. The instructions of the block: one constructor for each row of `spec/opcode_table.json`, and the two small
vocabularies the tables use, colours (R15) and line-coding modes (R111).

A code word carries no operand field (R90): its run or offset is which table entry it is, so each code word is a
constructor of its own. A host command carries the operand bits its row of R108 names and, for the chunk commands, the
host buffer it names (R107). -/

namespace Sys2Proof

/-- A pixel, or the colour of a run: white is 0 and black is 1 (R15). -/
inductive Color where
  | white
  | black
deriving DecidableEq, Repr

/-- The line-coding modes `T4_1D`, `T4_2D` and `T6` (R9 `MODE`, R111). -/
inductive Mode where
  | t41d
  | t42d
  | t6
deriving DecidableEq, Repr

/-- The instructions: code words (R90 to R99), which DEC executes and ENC emits, and host commands (R107, R108). -/
inductive Instr where
  -- White terminating codes `WT0` to `WT63` (R93).
  | wt0 | wt1 | wt2 | wt3 | wt4 | wt5 | wt6 | wt7 | wt8 | wt9 | wt10 | wt11 | wt12 | wt13 | wt14 | wt15 | wt16 | wt17
  | wt18 | wt19 | wt20 | wt21 | wt22 | wt23 | wt24 | wt25 | wt26 | wt27 | wt28 | wt29 | wt30 | wt31 | wt32 | wt33
  | wt34 | wt35 | wt36 | wt37 | wt38 | wt39 | wt40 | wt41 | wt42 | wt43 | wt44 | wt45 | wt46 | wt47 | wt48 | wt49
  | wt50 | wt51 | wt52 | wt53 | wt54 | wt55 | wt56 | wt57 | wt58 | wt59 | wt60 | wt61 | wt62 | wt63
  -- Black terminating codes `BT0` to `BT63` (R94).
  | bt0 | bt1 | bt2 | bt3 | bt4 | bt5 | bt6 | bt7 | bt8 | bt9 | bt10 | bt11 | bt12 | bt13 | bt14 | bt15 | bt16 | bt17
  | bt18 | bt19 | bt20 | bt21 | bt22 | bt23 | bt24 | bt25 | bt26 | bt27 | bt28 | bt29 | bt30 | bt31 | bt32 | bt33
  | bt34 | bt35 | bt36 | bt37 | bt38 | bt39 | bt40 | bt41 | bt42 | bt43 | bt44 | bt45 | bt46 | bt47 | bt48 | bt49
  | bt50 | bt51 | bt52 | bt53 | bt54 | bt55 | bt56 | bt57 | bt58 | bt59 | bt60 | bt61 | bt62 | bt63
  -- White make-up codes `WM64` to `WM1728` (R95).
  | wm64 | wm128 | wm192 | wm256 | wm320 | wm384 | wm448 | wm512 | wm576 | wm640 | wm704 | wm768 | wm832 | wm896
  | wm960 | wm1024 | wm1088 | wm1152 | wm1216 | wm1280 | wm1344 | wm1408 | wm1472 | wm1536 | wm1600 | wm1664 | wm1728
  -- Black make-up codes `BM64` to `BM1728` (R96).
  | bm64 | bm128 | bm192 | bm256 | bm320 | bm384 | bm448 | bm512 | bm576 | bm640 | bm704 | bm768 | bm832 | bm896
  | bm960 | bm1024 | bm1088 | bm1152 | bm1216 | bm1280 | bm1344 | bm1408 | bm1472 | bm1536 | bm1600 | bm1664 | bm1728
  -- Extended make-up codes `XM1792` to `XM2560`, shared by both colours (R97).
  | xm1792 | xm1856 | xm1920 | xm1984 | xm2048 | xm2112 | xm2176 | xm2240 | xm2304 | xm2368 | xm2432 | xm2496 | xm2560
  -- Two-dimensional mode codes (R98) and the `Null` value (R99), the table's `NULL2D`.
  | pass | horiz | v0 | vr1 | vr2 | vr3 | vl1 | vl2 | vl3 | ext2d | null2d
  -- End of line, alone and with its tag bit (R92).
  | eol | eol1 | eol0
  -- Host commands (R108).
  | txInit
  | txRelease
  | txSetMode (mode : BitVec 2)
  | txSetWidth (width : Word)
  | txSetXres (code : Word)
  | txSetYres (code : Word)
  | txSetMinRowBits (bits : Word)
  | txStartPage
  | txEndPage
  | txRestartPage
  | txNextPageDifferent
  | txGetBit
  | txGetByte
  | txGetChunk (maxLen : Word) (buf : List Byte)
  | txGetStats
  | rxInit
  | rxRelease
  | rxSetMode (mode : BitVec 2)
  | rxSetWidth (width : Word)
  | rxSetXres (code : Word)
  | rxSetYres (code : Word)
  | rxStartPage
  | rxEndPage
  | rxPutBit (bit : Bool)
  | rxPutByte (byte : Byte)
  | rxPutChunk (len : Word) (buf : List Byte)
  | rxGetStats
deriving DecidableEq, Repr

/-- The other colour: a terminating code or a Vertical mode flips the colour (R104, R165). -/
def Color.flip : Color → Color
  | .white => .black
  | .black => .white

end Sys2Proof
end

