-- ==== Sys2Proof/Decode.lean ====
section
/-! DEFINITION. Decoding and encoding.

The decoder reads a code word from the 13-bit window in one of the contexts of R91, by the tables of R92 to R99 as
`spec/opcode_table.json` lists them (the length and the window value `win[len-1:0]` of each code word), and a host command
from its opcode and operand word by the map of R108. The encoder is written from the other column of the same tables of
`30_encoding.md`: the bits of each code word in transmission order. -/

namespace Sys2Proof

/-! ## Decoding -/

/-- Which table a code word is looked up in (R91). -/
inductive Context where
  /-- The EOL pattern, with its tag bit when `tagged` (`T4_2D`, R92). -/
  | eol (tagged : Bool)
  /-- The two-dimensional mode table (R98, R99). -/
  | mode2d
  /-- The one-dimensional table of a colour: its terminating and make-up codes and the extended ones (R93 to R97). -/
  | run (color : Color)
deriving DecidableEq, Repr

/-- Why a decoder rejects what it is given. -/
inductive DecodeError where
  /-- The window does not hold an EOL (R92). -/
  | notEol
  /-- A one-dimensional peek that begins no code of the colour's table (R101, R229). -/
  | unmatched1d
  /-- A seven-bit peek that the mode table does not hold; R99 leaves none. -/
  | unmatched2d
  /-- An opcode that R108 does not list (R110). -/
  | reservedOpcode (op : Byte)
deriving DecidableEq, Repr

/-- One entry of a code table: a code word's length and its window value, bit 0 the first in time (R100), and the run
length that its table index gives (R104; 0 for a code that is no run). -/
structure CodeRow where
  instr : Instr
  len : Nat
  win : Nat
  run : Nat
deriving DecidableEq, Repr

/-- `WT0` to `WT63` (R93), in the order of their runs. -/
def whiteTermRows : List CodeRow :=
  [⟨.wt0, 8, 0xAC, 0⟩, ⟨.wt1, 6, 0x38, 1⟩, ⟨.wt2, 4, 0xE, 2⟩, ⟨.wt3, 4, 0x1, 3⟩, ⟨.wt4, 4, 0xD, 4⟩,
   ⟨.wt5, 4, 0x3, 5⟩, ⟨.wt6, 4, 0x7, 6⟩, ⟨.wt7, 4, 0xF, 7⟩, ⟨.wt8, 5, 0x19, 8⟩, ⟨.wt9, 5, 0x5, 9⟩,
   ⟨.wt10, 5, 0x1C, 10⟩, ⟨.wt11, 5, 0x2, 11⟩, ⟨.wt12, 6, 0x4, 12⟩, ⟨.wt13, 6, 0x30, 13⟩, ⟨.wt14, 6, 0xB, 14⟩,
   ⟨.wt15, 6, 0x2B, 15⟩, ⟨.wt16, 6, 0x15, 16⟩, ⟨.wt17, 6, 0x35, 17⟩, ⟨.wt18, 7, 0x72, 18⟩, ⟨.wt19, 7, 0x18, 19⟩,
   ⟨.wt20, 7, 0x8, 20⟩, ⟨.wt21, 7, 0x74, 21⟩, ⟨.wt22, 7, 0x60, 22⟩, ⟨.wt23, 7, 0x10, 23⟩, ⟨.wt24, 7, 0xA, 24⟩,
   ⟨.wt25, 7, 0x6A, 25⟩, ⟨.wt26, 7, 0x64, 26⟩, ⟨.wt27, 7, 0x12, 27⟩, ⟨.wt28, 7, 0xC, 28⟩, ⟨.wt29, 8, 0x40, 29⟩,
   ⟨.wt30, 8, 0xC0, 30⟩, ⟨.wt31, 8, 0x58, 31⟩] ++
  [⟨.wt32, 8, 0xD8, 32⟩, ⟨.wt33, 8, 0x48, 33⟩, ⟨.wt34, 8, 0xC8, 34⟩, ⟨.wt35, 8, 0x28, 35⟩, ⟨.wt36, 8, 0xA8, 36⟩,
   ⟨.wt37, 8, 0x68, 37⟩, ⟨.wt38, 8, 0xE8, 38⟩, ⟨.wt39, 8, 0x14, 39⟩, ⟨.wt40, 8, 0x94, 40⟩, ⟨.wt41, 8, 0x54, 41⟩,
   ⟨.wt42, 8, 0xD4, 42⟩, ⟨.wt43, 8, 0x34, 43⟩, ⟨.wt44, 8, 0xB4, 44⟩, ⟨.wt45, 8, 0x20, 45⟩, ⟨.wt46, 8, 0xA0, 46⟩,
   ⟨.wt47, 8, 0x50, 47⟩, ⟨.wt48, 8, 0xD0, 48⟩, ⟨.wt49, 8, 0x4A, 49⟩, ⟨.wt50, 8, 0xCA, 50⟩, ⟨.wt51, 8, 0x2A, 51⟩,
   ⟨.wt52, 8, 0xAA, 52⟩, ⟨.wt53, 8, 0x24, 53⟩, ⟨.wt54, 8, 0xA4, 54⟩, ⟨.wt55, 8, 0x1A, 55⟩, ⟨.wt56, 8, 0x9A, 56⟩,
   ⟨.wt57, 8, 0x5A, 57⟩, ⟨.wt58, 8, 0xDA, 58⟩, ⟨.wt59, 8, 0x52, 59⟩, ⟨.wt60, 8, 0xD2, 60⟩, ⟨.wt61, 8, 0x4C, 61⟩,
   ⟨.wt62, 8, 0xCC, 62⟩, ⟨.wt63, 8, 0x2C, 63⟩]

/-- `BT0` to `BT63` (R94), in the order of their runs. -/
def blackTermRows : List CodeRow :=
  [⟨.bt0, 10, 0x3B0, 0⟩, ⟨.bt1, 3, 0x2, 1⟩, ⟨.bt2, 2, 0x3, 2⟩, ⟨.bt3, 2, 0x1, 3⟩, ⟨.bt4, 3, 0x6, 4⟩,
   ⟨.bt5, 4, 0xC, 5⟩, ⟨.bt6, 4, 0x4, 6⟩, ⟨.bt7, 5, 0x18, 7⟩, ⟨.bt8, 6, 0x28, 8⟩, ⟨.bt9, 6, 0x8, 9⟩,
   ⟨.bt10, 7, 0x10, 10⟩, ⟨.bt11, 7, 0x50, 11⟩, ⟨.bt12, 7, 0x70, 12⟩, ⟨.bt13, 8, 0x20, 13⟩, ⟨.bt14, 8, 0xE0, 14⟩,
   ⟨.bt15, 9, 0x30, 15⟩, ⟨.bt16, 10, 0x3A0, 16⟩, ⟨.bt17, 10, 0x60, 17⟩, ⟨.bt18, 10, 0x40, 18⟩,
   ⟨.bt19, 11, 0x730, 19⟩, ⟨.bt20, 11, 0xB0, 20⟩, ⟨.bt21, 11, 0x1B0, 21⟩, ⟨.bt22, 11, 0x760, 22⟩,
   ⟨.bt23, 11, 0xA0, 23⟩, ⟨.bt24, 11, 0x740, 24⟩, ⟨.bt25, 11, 0xC0, 25⟩, ⟨.bt26, 12, 0x530, 26⟩,
   ⟨.bt27, 12, 0xD30, 27⟩, ⟨.bt28, 12, 0x330, 28⟩, ⟨.bt29, 12, 0xB30, 29⟩, ⟨.bt30, 12, 0x160, 30⟩,
   ⟨.bt31, 12, 0x960, 31⟩] ++
  [⟨.bt32, 12, 0x560, 32⟩, ⟨.bt33, 12, 0xD60, 33⟩, ⟨.bt34, 12, 0x4B0, 34⟩, ⟨.bt35, 12, 0xCB0, 35⟩,
   ⟨.bt36, 12, 0x2B0, 36⟩, ⟨.bt37, 12, 0xAB0, 37⟩, ⟨.bt38, 12, 0x6B0, 38⟩, ⟨.bt39, 12, 0xEB0, 39⟩,
   ⟨.bt40, 12, 0x360, 40⟩, ⟨.bt41, 12, 0xB60, 41⟩, ⟨.bt42, 12, 0x5B0, 42⟩, ⟨.bt43, 12, 0xDB0, 43⟩,
   ⟨.bt44, 12, 0x2A0, 44⟩, ⟨.bt45, 12, 0xAA0, 45⟩, ⟨.bt46, 12, 0x6A0, 46⟩, ⟨.bt47, 12, 0xEA0, 47⟩,
   ⟨.bt48, 12, 0x260, 48⟩, ⟨.bt49, 12, 0xA60, 49⟩, ⟨.bt50, 12, 0x4A0, 50⟩, ⟨.bt51, 12, 0xCA0, 51⟩,
   ⟨.bt52, 12, 0x240, 52⟩, ⟨.bt53, 12, 0xEC0, 53⟩, ⟨.bt54, 12, 0x1C0, 54⟩, ⟨.bt55, 12, 0xE40, 55⟩,
   ⟨.bt56, 12, 0x140, 56⟩, ⟨.bt57, 12, 0x1A0, 57⟩, ⟨.bt58, 12, 0x9A0, 58⟩, ⟨.bt59, 12, 0xD40, 59⟩,
   ⟨.bt60, 12, 0x340, 60⟩, ⟨.bt61, 12, 0x5A0, 61⟩, ⟨.bt62, 12, 0x660, 62⟩, ⟨.bt63, 12, 0xE60, 63⟩]

/-- `WM64` to `WM1728` (R95), in steps of 64. -/
def whiteMakeupRows : List CodeRow :=
  [⟨.wm64, 5, 0x1B, 64⟩, ⟨.wm128, 5, 0x9, 128⟩, ⟨.wm192, 6, 0x3A, 192⟩, ⟨.wm256, 7, 0x76, 256⟩,
   ⟨.wm320, 8, 0x6C, 320⟩, ⟨.wm384, 8, 0xEC, 384⟩, ⟨.wm448, 8, 0x26, 448⟩, ⟨.wm512, 8, 0xA6, 512⟩,
   ⟨.wm576, 8, 0x16, 576⟩, ⟨.wm640, 8, 0xE6, 640⟩, ⟨.wm704, 9, 0x66, 704⟩, ⟨.wm768, 9, 0x166, 768⟩,
   ⟨.wm832, 9, 0x96, 832⟩, ⟨.wm896, 9, 0x196, 896⟩, ⟨.wm960, 9, 0x56, 960⟩, ⟨.wm1024, 9, 0x156, 1024⟩,
   ⟨.wm1088, 9, 0xD6, 1088⟩, ⟨.wm1152, 9, 0x1D6, 1152⟩, ⟨.wm1216, 9, 0x36, 1216⟩, ⟨.wm1280, 9, 0x136, 1280⟩,
   ⟨.wm1344, 9, 0xB6, 1344⟩, ⟨.wm1408, 9, 0x1B6, 1408⟩, ⟨.wm1472, 9, 0x32, 1472⟩, ⟨.wm1536, 9, 0x132, 1536⟩,
   ⟨.wm1600, 9, 0xB2, 1600⟩, ⟨.wm1664, 6, 0x6, 1664⟩, ⟨.wm1728, 9, 0x1B2, 1728⟩]

/-- `BM64` to `BM1728` (R96), in steps of 64. -/
def blackMakeupRows : List CodeRow :=
  [⟨.bm64, 10, 0x3C0, 64⟩, ⟨.bm128, 12, 0x130, 128⟩, ⟨.bm192, 12, 0x930, 192⟩, ⟨.bm256, 12, 0xDA0, 256⟩,
   ⟨.bm320, 12, 0xCC0, 320⟩, ⟨.bm384, 12, 0x2C0, 384⟩, ⟨.bm448, 12, 0xAC0, 448⟩, ⟨.bm512, 13, 0x6C0, 512⟩,
   ⟨.bm576, 13, 0x16C0, 576⟩, ⟨.bm640, 13, 0xA40, 640⟩, ⟨.bm704, 13, 0x1A40, 704⟩, ⟨.bm768, 13, 0x640, 768⟩,
   ⟨.bm832, 13, 0x1640, 832⟩, ⟨.bm896, 13, 0x9C0, 896⟩, ⟨.bm960, 13, 0x19C0, 960⟩, ⟨.bm1024, 13, 0x5C0, 1024⟩,
   ⟨.bm1088, 13, 0x15C0, 1088⟩, ⟨.bm1152, 13, 0xDC0, 1152⟩, ⟨.bm1216, 13, 0x1DC0, 1216⟩, ⟨.bm1280, 13, 0x940, 1280⟩,
   ⟨.bm1344, 13, 0x1940, 1344⟩, ⟨.bm1408, 13, 0x540, 1408⟩, ⟨.bm1472, 13, 0x1540, 1472⟩, ⟨.bm1536, 13, 0xB40, 1536⟩,
   ⟨.bm1600, 13, 0x1B40, 1600⟩, ⟨.bm1664, 13, 0x4C0, 1664⟩, ⟨.bm1728, 13, 0x14C0, 1728⟩]

/-- `XM1792` to `XM2560` (R97), in steps of 64. -/
def extMakeupRows : List CodeRow :=
  [⟨.xm1792, 11, 0x80, 1792⟩, ⟨.xm1856, 11, 0x180, 1856⟩, ⟨.xm1920, 11, 0x580, 1920⟩, ⟨.xm1984, 12, 0x480, 1984⟩,
   ⟨.xm2048, 12, 0xC80, 2048⟩, ⟨.xm2112, 12, 0x280, 2112⟩, ⟨.xm2176, 12, 0xA80, 2176⟩, ⟨.xm2240, 12, 0x680, 2240⟩,
   ⟨.xm2304, 12, 0xE80, 2304⟩, ⟨.xm2368, 12, 0x380, 2368⟩, ⟨.xm2432, 12, 0xB80, 2432⟩, ⟨.xm2496, 12, 0x780, 2496⟩,
   ⟨.xm2560, 12, 0xF80, 2560⟩]

/-- The mode codes (R98) and the `Null` value (R99). The 11 rows partition the 128 values of the peek. -/
def modeRows : List CodeRow :=
  [⟨.pass, 4, 0x8, 0⟩, ⟨.horiz, 3, 0x4, 0⟩, ⟨.v0, 1, 0x1, 0⟩, ⟨.vr1, 3, 0x6, 0⟩, ⟨.vr2, 6, 0x30, 0⟩,
   ⟨.vr3, 7, 0x60, 0⟩, ⟨.vl1, 3, 0x2, 0⟩, ⟨.vl2, 6, 0x10, 0⟩, ⟨.vl3, 7, 0x20, 0⟩, ⟨.ext2d, 7, 0x40, 0⟩,
   ⟨.null2d, 7, 0x0, 0⟩]

/-- The one-dimensional table of a colour (R91): its terminating codes, its make-up codes and the extended ones. -/
def runRows : Color → List CodeRow
  | .white => whiteTermRows ++ whiteMakeupRows ++ extMakeupRows
  | .black => blackTermRows ++ blackMakeupRows ++ extMakeupRows

/-- Does a window begin with a row's code word (R100)? -/
def CodeRow.matches (r : CodeRow) (win : BitVec 13) : Bool := win.toNat % 2 ^ r.len == r.win

/-- The row of a table whose code word a window begins with. -/
def lookupRow (rows : List CodeRow) (win : BitVec 13) : Option CodeRow := rows.find? fun r => r.matches win

/-- Does a window hold the 12 bits of an EOL, `win[11:0] = 0x800` (R92)? -/
def isEol (win : BitVec 13) : Bool := win.toNat % 2 ^ 12 == 0x800

/-- The code word that a window begins with, in a context. -/
def decodeCode : Context → BitVec 13 → Except DecodeError Instr
  | .eol tagged, win =>
    if isEol win then .ok (if tagged then (if win[12] then .eol1 else .eol0) else .eol) else .error .notEol
  | .mode2d, win =>
    match lookupRow modeRows win with
    | some r => .ok r.instr
    | none => .error .unmatched2d
  | .run color, win =>
    match lookupRow (runRows color) win with
    | some r => .ok r.instr
    | none => .error .unmatched1d

/-- A host command as the host issues it: opcode, operand word, and the host buffer a chunk command names (R107). -/
structure Command where
  op : Byte
  arg : Word
  buf : List Byte
deriving DecidableEq, Repr

/-- The host command of an opcode and its operand (R108). Operand bits a command does not name are ignored; a reserved
opcode is rejected by name (R110). -/
def decodeCommand (c : Command) : Except DecodeError Instr :=
  match c.op.toNat with
  | 0x01 => .ok .txInit
  | 0x02 => .ok .txRelease
  | 0x03 => .ok (.txSetMode (c.arg.extractLsb' 0 2))
  | 0x04 => .ok (.txSetWidth c.arg)
  | 0x05 => .ok (.txSetXres c.arg)
  | 0x06 => .ok (.txSetYres c.arg)
  | 0x07 => .ok (.txSetMinRowBits c.arg)
  | 0x08 => .ok .txStartPage
  | 0x09 => .ok .txEndPage
  | 0x0A => .ok .txRestartPage
  | 0x0B => .ok .txNextPageDifferent
  | 0x0C => .ok .txGetBit
  | 0x0D => .ok .txGetByte
  | 0x0E => .ok (.txGetChunk c.arg c.buf)
  | 0x0F => .ok .txGetStats
  | 0x11 => .ok .rxInit
  | 0x12 => .ok .rxRelease
  | 0x13 => .ok (.rxSetMode (c.arg.extractLsb' 0 2))
  | 0x14 => .ok (.rxSetWidth c.arg)
  | 0x15 => .ok (.rxSetXres c.arg)
  | 0x16 => .ok (.rxSetYres c.arg)
  | 0x18 => .ok .rxStartPage
  | 0x19 => .ok .rxEndPage
  | 0x1C => .ok (.rxPutBit c.arg[0])
  | 0x1D => .ok (.rxPutByte (c.arg.extractLsb' 0 8))
  | 0x1E => .ok (.rxPutChunk c.arg c.buf)
  | 0x1F => .ok .rxGetStats
  | _ => .error (.reservedOpcode c.op)

/-! ## Encoding -/

/-- A code word's bits from its code as printed in transmission order: `n` bits, the first in time the most significant
bit of `v` (R10). -/
def transmit (n v : Nat) : List Bool := (List.range n).map fun j => v.testBit (n - 1 - j)

/-- The value a window holds when a bit string is its oldest bits: bit `j` of the string is bit `j` (R100). -/
def windowValue : List Bool → Nat
  | [] => 0
  | b :: bs => b.toNat + 2 * windowValue bs

/-- The form an instruction takes outside the block: a code word's bits in transmission order (R90), or a host command's
opcode, operand word and buffer (R107). -/
inductive Encoding where
  | code (bits : List Bool)
  | command (c : Command)
deriving DecidableEq, Repr

/-- A host command without an operand (R108). -/
def plainCommand (op : Byte) : Encoding := .command ⟨op, 0, []⟩

/-- A host command with an operand word (R108). -/
def wordCommand (op : Byte) (arg : Word) : Encoding := .command ⟨op, arg, []⟩

/-- A code word of `n` bits, as printed in transmission order. -/
def codeWord (n v : Nat) : Encoding := .code (transmit n v)

/-- The words of an instruction: the code column of R92 to R98 and the opcode column of R108; operand bits that a command
does not name are 0. -/
def encode : Instr → Encoding
  | .wt0 => codeWord 8 0b00110101
  | .wt1 => codeWord 6 0b000111
  | .wt2 => codeWord 4 0b0111
  | .wt3 => codeWord 4 0b1000
  | .wt4 => codeWord 4 0b1011
  | .wt5 => codeWord 4 0b1100
  | .wt6 => codeWord 4 0b1110
  | .wt7 => codeWord 4 0b1111
  | .wt8 => codeWord 5 0b10011
  | .wt9 => codeWord 5 0b10100
  | .wt10 => codeWord 5 0b00111
  | .wt11 => codeWord 5 0b01000
  | .wt12 => codeWord 6 0b001000
  | .wt13 => codeWord 6 0b000011
  | .wt14 => codeWord 6 0b110100
  | .wt15 => codeWord 6 0b110101
  | .wt16 => codeWord 6 0b101010
  | .wt17 => codeWord 6 0b101011
  | .wt18 => codeWord 7 0b0100111
  | .wt19 => codeWord 7 0b0001100
  | .wt20 => codeWord 7 0b0001000
  | .wt21 => codeWord 7 0b0010111
  | .wt22 => codeWord 7 0b0000011
  | .wt23 => codeWord 7 0b0000100
  | .wt24 => codeWord 7 0b0101000
  | .wt25 => codeWord 7 0b0101011
  | .wt26 => codeWord 7 0b0010011
  | .wt27 => codeWord 7 0b0100100
  | .wt28 => codeWord 7 0b0011000
  | .wt29 => codeWord 8 0b00000010
  | .wt30 => codeWord 8 0b00000011
  | .wt31 => codeWord 8 0b00011010
  | .wt32 => codeWord 8 0b00011011
  | .wt33 => codeWord 8 0b00010010
  | .wt34 => codeWord 8 0b00010011
  | .wt35 => codeWord 8 0b00010100
  | .wt36 => codeWord 8 0b00010101
  | .wt37 => codeWord 8 0b00010110
  | .wt38 => codeWord 8 0b00010111
  | .wt39 => codeWord 8 0b00101000
  | .wt40 => codeWord 8 0b00101001
  | .wt41 => codeWord 8 0b00101010
  | .wt42 => codeWord 8 0b00101011
  | .wt43 => codeWord 8 0b00101100
  | .wt44 => codeWord 8 0b00101101
  | .wt45 => codeWord 8 0b00000100
  | .wt46 => codeWord 8 0b00000101
  | .wt47 => codeWord 8 0b00001010
  | .wt48 => codeWord 8 0b00001011
  | .wt49 => codeWord 8 0b01010010
  | .wt50 => codeWord 8 0b01010011
  | .wt51 => codeWord 8 0b01010100
  | .wt52 => codeWord 8 0b01010101
  | .wt53 => codeWord 8 0b00100100
  | .wt54 => codeWord 8 0b00100101
  | .wt55 => codeWord 8 0b01011000
  | .wt56 => codeWord 8 0b01011001
  | .wt57 => codeWord 8 0b01011010
  | .wt58 => codeWord 8 0b01011011
  | .wt59 => codeWord 8 0b01001010
  | .wt60 => codeWord 8 0b01001011
  | .wt61 => codeWord 8 0b00110010
  | .wt62 => codeWord 8 0b00110011
  | .wt63 => codeWord 8 0b00110100
  | .bt0 => codeWord 10 0b0000110111
  | .bt1 => codeWord 3 0b010
  | .bt2 => codeWord 2 0b11
  | .bt3 => codeWord 2 0b10
  | .bt4 => codeWord 3 0b011
  | .bt5 => codeWord 4 0b0011
  | .bt6 => codeWord 4 0b0010
  | .bt7 => codeWord 5 0b00011
  | .bt8 => codeWord 6 0b000101
  | .bt9 => codeWord 6 0b000100
  | .bt10 => codeWord 7 0b0000100
  | .bt11 => codeWord 7 0b0000101
  | .bt12 => codeWord 7 0b0000111
  | .bt13 => codeWord 8 0b00000100
  | .bt14 => codeWord 8 0b00000111
  | .bt15 => codeWord 9 0b000011000
  | .bt16 => codeWord 10 0b0000010111
  | .bt17 => codeWord 10 0b0000011000
  | .bt18 => codeWord 10 0b0000001000
  | .bt19 => codeWord 11 0b00001100111
  | .bt20 => codeWord 11 0b00001101000
  | .bt21 => codeWord 11 0b00001101100
  | .bt22 => codeWord 11 0b00000110111
  | .bt23 => codeWord 11 0b00000101000
  | .bt24 => codeWord 11 0b00000010111
  | .bt25 => codeWord 11 0b00000011000
  | .bt26 => codeWord 12 0b000011001010
  | .bt27 => codeWord 12 0b000011001011
  | .bt28 => codeWord 12 0b000011001100
  | .bt29 => codeWord 12 0b000011001101
  | .bt30 => codeWord 12 0b000001101000
  | .bt31 => codeWord 12 0b000001101001
  | .bt32 => codeWord 12 0b000001101010
  | .bt33 => codeWord 12 0b000001101011
  | .bt34 => codeWord 12 0b000011010010
  | .bt35 => codeWord 12 0b000011010011
  | .bt36 => codeWord 12 0b000011010100
  | .bt37 => codeWord 12 0b000011010101
  | .bt38 => codeWord 12 0b000011010110
  | .bt39 => codeWord 12 0b000011010111
  | .bt40 => codeWord 12 0b000001101100
  | .bt41 => codeWord 12 0b000001101101
  | .bt42 => codeWord 12 0b000011011010
  | .bt43 => codeWord 12 0b000011011011
  | .bt44 => codeWord 12 0b000001010100
  | .bt45 => codeWord 12 0b000001010101
  | .bt46 => codeWord 12 0b000001010110
  | .bt47 => codeWord 12 0b000001010111
  | .bt48 => codeWord 12 0b000001100100
  | .bt49 => codeWord 12 0b000001100101
  | .bt50 => codeWord 12 0b000001010010
  | .bt51 => codeWord 12 0b000001010011
  | .bt52 => codeWord 12 0b000000100100
  | .bt53 => codeWord 12 0b000000110111
  | .bt54 => codeWord 12 0b000000111000
  | .bt55 => codeWord 12 0b000000100111
  | .bt56 => codeWord 12 0b000000101000
  | .bt57 => codeWord 12 0b000001011000
  | .bt58 => codeWord 12 0b000001011001
  | .bt59 => codeWord 12 0b000000101011
  | .bt60 => codeWord 12 0b000000101100
  | .bt61 => codeWord 12 0b000001011010
  | .bt62 => codeWord 12 0b000001100110
  | .bt63 => codeWord 12 0b000001100111
  | .wm64 => codeWord 5 0b11011
  | .wm128 => codeWord 5 0b10010
  | .wm192 => codeWord 6 0b010111
  | .wm256 => codeWord 7 0b0110111
  | .wm320 => codeWord 8 0b00110110
  | .wm384 => codeWord 8 0b00110111
  | .wm448 => codeWord 8 0b01100100
  | .wm512 => codeWord 8 0b01100101
  | .wm576 => codeWord 8 0b01101000
  | .wm640 => codeWord 8 0b01100111
  | .wm704 => codeWord 9 0b011001100
  | .wm768 => codeWord 9 0b011001101
  | .wm832 => codeWord 9 0b011010010
  | .wm896 => codeWord 9 0b011010011
  | .wm960 => codeWord 9 0b011010100
  | .wm1024 => codeWord 9 0b011010101
  | .wm1088 => codeWord 9 0b011010110
  | .wm1152 => codeWord 9 0b011010111
  | .wm1216 => codeWord 9 0b011011000
  | .wm1280 => codeWord 9 0b011011001
  | .wm1344 => codeWord 9 0b011011010
  | .wm1408 => codeWord 9 0b011011011
  | .wm1472 => codeWord 9 0b010011000
  | .wm1536 => codeWord 9 0b010011001
  | .wm1600 => codeWord 9 0b010011010
  | .wm1664 => codeWord 6 0b011000
  | .wm1728 => codeWord 9 0b010011011
  | .bm64 => codeWord 10 0b0000001111
  | .bm128 => codeWord 12 0b000011001000
  | .bm192 => codeWord 12 0b000011001001
  | .bm256 => codeWord 12 0b000001011011
  | .bm320 => codeWord 12 0b000000110011
  | .bm384 => codeWord 12 0b000000110100
  | .bm448 => codeWord 12 0b000000110101
  | .bm512 => codeWord 13 0b0000001101100
  | .bm576 => codeWord 13 0b0000001101101
  | .bm640 => codeWord 13 0b0000001001010
  | .bm704 => codeWord 13 0b0000001001011
  | .bm768 => codeWord 13 0b0000001001100
  | .bm832 => codeWord 13 0b0000001001101
  | .bm896 => codeWord 13 0b0000001110010
  | .bm960 => codeWord 13 0b0000001110011
  | .bm1024 => codeWord 13 0b0000001110100
  | .bm1088 => codeWord 13 0b0000001110101
  | .bm1152 => codeWord 13 0b0000001110110
  | .bm1216 => codeWord 13 0b0000001110111
  | .bm1280 => codeWord 13 0b0000001010010
  | .bm1344 => codeWord 13 0b0000001010011
  | .bm1408 => codeWord 13 0b0000001010100
  | .bm1472 => codeWord 13 0b0000001010101
  | .bm1536 => codeWord 13 0b0000001011010
  | .bm1600 => codeWord 13 0b0000001011011
  | .bm1664 => codeWord 13 0b0000001100100
  | .bm1728 => codeWord 13 0b0000001100101
  | .xm1792 => codeWord 11 0b00000001000
  | .xm1856 => codeWord 11 0b00000001100
  | .xm1920 => codeWord 11 0b00000001101
  | .xm1984 => codeWord 12 0b000000010010
  | .xm2048 => codeWord 12 0b000000010011
  | .xm2112 => codeWord 12 0b000000010100
  | .xm2176 => codeWord 12 0b000000010101
  | .xm2240 => codeWord 12 0b000000010110
  | .xm2304 => codeWord 12 0b000000010111
  | .xm2368 => codeWord 12 0b000000011100
  | .xm2432 => codeWord 12 0b000000011101
  | .xm2496 => codeWord 12 0b000000011110
  | .xm2560 => codeWord 12 0b000000011111
  | .pass => codeWord 4 0b0001
  | .horiz => codeWord 3 0b001
  | .v0 => codeWord 1 0b1
  | .vr1 => codeWord 3 0b011
  | .vr2 => codeWord 6 0b000011
  | .vr3 => codeWord 7 0b0000011
  | .vl1 => codeWord 3 0b010
  | .vl2 => codeWord 6 0b000010
  | .vl3 => codeWord 7 0b0000010
  | .ext2d => codeWord 7 0b0000001
  | .null2d => codeWord 7 0b0000000
  | .eol => codeWord 12 0b000000000001
  | .eol1 => codeWord 13 0b0000000000011
  | .eol0 => codeWord 13 0b0000000000010
  | .txInit => plainCommand 0x01
  | .txRelease => plainCommand 0x02
  | .txSetMode mode => wordCommand 0x03 (mode.setWidth 32)
  | .txSetWidth width => wordCommand 0x04 width
  | .txSetXres code => wordCommand 0x05 code
  | .txSetYres code => wordCommand 0x06 code
  | .txSetMinRowBits bits => wordCommand 0x07 bits
  | .txStartPage => plainCommand 0x08
  | .txEndPage => plainCommand 0x09
  | .txRestartPage => plainCommand 0x0A
  | .txNextPageDifferent => plainCommand 0x0B
  | .txGetBit => plainCommand 0x0C
  | .txGetByte => plainCommand 0x0D
  | .txGetChunk maxLen buf => .command ⟨0x0E, maxLen, buf⟩
  | .txGetStats => plainCommand 0x0F
  | .rxInit => plainCommand 0x11
  | .rxRelease => plainCommand 0x12
  | .rxSetMode mode => wordCommand 0x13 (mode.setWidth 32)
  | .rxSetWidth width => wordCommand 0x14 width
  | .rxSetXres code => wordCommand 0x15 code
  | .rxSetYres code => wordCommand 0x16 code
  | .rxStartPage => plainCommand 0x18
  | .rxEndPage => plainCommand 0x19
  | .rxPutBit bit => wordCommand 0x1C (if bit then 1 else 0)
  | .rxPutByte byte => wordCommand 0x1D (byte.setWidth 32)
  | .rxPutChunk len buf => .command ⟨0x1E, len, buf⟩
  | .rxGetStats => plainCommand 0x1F

/-- The bits of a code word in transmission order; none for a host command. -/
def codeBits (i : Instr) : List Bool :=
  match encode i with
  | .code bits => bits
  | .command _ => []

/-- Is an instruction a code word (and no host command)? -/
def isCodeWord (i : Instr) : Bool := !(codeBits i).isEmpty

/-! ## The host's view of the opcode table -/

/-- A length in bits as whole bytes. -/
def wholeBytes (n : Nat) : Nat := (n + 7) / 8 * 8

/-- The code word a table word holds in one context, where its length fills the word's bytes; if `exact`, only where every
bit above the code word is 0. -/
def tableCode (nbits w : Nat) (exact : Bool) (c : Context) : Option Instr :=
  match decodeCode c (BitVec.ofNat 13 w) with
  | .ok i =>
    if wholeBytes (codeBits i).length == nbits && (!exact || w == windowValue (codeBits i)) then some i else none
  | .error _ => none

/-- The contexts of a code word in the order of the decoder's tests (R204). -/
def tableContexts : List Context := [.eol false, .eol true, .mode2d, .run .white, .run .black]

/-- The context in which a table word is read as a code word: the first that holds it exactly, else the first that holds
it with bits above it set. -/
def tableContext (nbits w : Nat) : Option Context :=
  (tableContexts.find? fun c => (tableCode nbits w true c).isSome).or
    (tableContexts.find? fun c => (tableCode nbits w false c).isSome)

/-- The host command that a table word holds: an opcode byte, and the operand word above it if there are bits for it. -/
def tableCommand (nbits w : Nat) : Option Command :=
  if nbits == 8 || nbits == 40 then some ⟨BitVec.ofNat 8 w, BitVec.ofNat 32 (w / 2 ^ 8), []⟩ else none

/-- The instruction the decoder reads from a table word. The word carries no context (R91) and 29 words of the table stand
for code words of several contexts or for a host command too, so one order is fixed: a host command first, since a
channel that no command has opened reads no code word, then the contexts in the order of R204 (log 4). -/
def decodeTableWord (nbits w : Nat) : Option Instr :=
  match (tableCommand nbits w).map decodeCommand with
  | some (.ok i) => some i
  | _ =>
    match tableContext nbits w with
    | some c => (decodeCode c (BitVec.ofNat 13 w)).toOption
    | none => none

end Sys2Proof
end

