-- ==== Sys2Proof/Machine/State.lean ====
section
/-! DEFINITION. The machine's state: the two channels with every register of `10_state.md`, the host interface, and the
parameters of the model (R9). Plain data throughout. Also the reasons a step can stop, and the state at power-on.

The block has no general register file (R20) and no program counter (R21): the stream cursors `Dec.win` and `Enc.outPos`
are what advances. It has one privilege level (R337) and no exception state (R320). -/

namespace Sys2Proof.Machine

/-! ## Buffers -/

/-- A byte buffer, `IMG` or `OUT` (R70): the bytes written, by index, with indices strictly rising. An index that is not
listed holds no value: reading it faults (log 14). -/
abbrev Memory := List Host.Cell

/-! ## Lifecycle, configuration, statistics -/

/-- A channel's lifecycle register (R22). -/
inductive Life where
  | uninit
  | idle
  | inPage
deriving DecidableEq, Repr

/-- The encoder's configuration registers, staged (`cfg`, R23) or of the page (`pcfg`, R24). `none` is `UNSET`. -/
structure TxCfg where
  mode : Option Mode
  width : Option Word
  xres : Option Word
  yres : Option Word
  minRowBits : Option Word
deriving DecidableEq, Repr

/-- The decoder's configuration registers, staged or of the page (R23, R24). `none` is `UNSET`. -/
structure RxCfg where
  mode : Option Mode
  width : Option Word
  xres : Option Word
  yres : Option Word
deriving DecidableEq, Repr

/-- The page statistics of a channel (R50). `none` is `NONE`. -/
structure PageStats where
  badRows : Nat
  curBadRun : Nat
  longestBadRun : Nat
  minRowBits : Option Nat
  maxRowBits : Option Nat
deriving DecidableEq, Repr

/-- The statistics snapshot of a channel, words 0 to 8 in order (R51). -/
structure Stats where
  pages : Word
  width : Word
  length : Word
  xres : Word
  yres : Word
  badRows : Word
  longestBadRun : Word
  encoding : Word
  sizeBytes : Word
deriving DecidableEq, Repr

/-! ## The oracles and the callbacks -/

/-- The allocator oracle `ALLOC` of a channel (R13, D28): the scripted answers not yet drawn, and the draws made. When no
scripted answer is left, the answer is the free value of `Config` (log 8). The model's own field. -/
structure Alloc where
  script : List Bool
  draws : Nat
deriving DecidableEq, Repr

/-- One answer of the row source: the count that `row_read` returns and the bytes it leaves in the buffer (R313). -/
structure RowAnswer where
  count : Int
  bytes : List Byte
deriving DecidableEq, Repr

/-- The row source oracle (R313): its answers are a sequence per page. When no scripted answer of the page is left, the answer
is the free value of `Config` for the page and the call (log 9). The model's own field. -/
structure RowSource where
  /-- The scripted answers of this page not yet given. -/
  script : List RowAnswer
  /-- The calls made in this page. -/
  calls : Nat
  /-- The scripted sequences of the pages to come. -/
  later : List (List RowAnswer)
  /-- The pages begun. -/
  page : Nat
deriving DecidableEq, Repr

/-- A call `row_read(user_data, buf, max_len)` (R177). -/
structure ReadCall where
  userData : Nat
  maxLen : Nat
deriving DecidableEq, Repr

/-- A call `row_write(user_data, buf, len)` (R274); `none` is the null buffer of the end marker. -/
structure SinkCall where
  userData : Nat
  bytes : Option (List Byte)
  len : Nat
deriving DecidableEq, Repr

/-- The events of the diagnostic trace (R247). -/
inductive TraceEvent where
  | eol
  | null
  | bad1d
  | ext
  | invalid
deriving DecidableEq, Repr

/-! ## The channels -/

/-- The transmit channel ENC (R22 to R34, R50, R51). -/
structure Enc where
  /-- R22. -/
  life : Life
  /-- R23. -/
  cfg : TxCfg
  /-- R24. -/
  pcfg : TxCfg
  /-- R25; `none` is `UNSET`. -/
  k : Option Nat
  /-- R26. -/
  refRuns : List Nat
  /-- R27. -/
  curRow : List Byte
  /-- R27. -/
  curRuns : List Nat
  /-- R28. -/
  rowsTo1d : Nat
  /-- R29. -/
  acc : BitVec 20
  /-- R29. -/
  accBits : Nat
  /-- `OUT` (R30, R72). -/
  out : Memory
  /-- R30. -/
  outBytes : Nat
  /-- R70, R82. -/
  outCap : Nat
  /-- R31. -/
  rowBits : Nat
  /-- R32. -/
  srcDone : Bool
  /-- R32. -/
  termDone : Bool
  /-- R32. -/
  rowReadError : Bool
  /-- R32. -/
  nomem : Bool
  /-- R33. -/
  outPos : Nat
  /-- R34. -/
  rows : Nat
  /-- R50. -/
  page : PageStats
  /-- R51. -/
  stats : Stats
  /-- The model's own field: the allocator oracle. -/
  alloc : Alloc
  /-- The model's own field: the row source oracle. -/
  source : RowSource
  /-- The model's own field: the `row_read` calls made, oldest first. -/
  reads : List ReadCall
  /-- The opaque host value passed to `row_read` (R313). -/
  userData : Nat
deriving DecidableEq, Repr

/-- Whether the decoder is inside a Horizontal mode: `hpair` 0, 1 or 2 (R45). -/
inductive HPair where
  | none
  | first
  | second
deriving DecidableEq, Repr

/-- The receive channel DEC (R22 to R24, R40 to R51). -/
structure Dec where
  /-- R22. -/
  life : Life
  /-- R23. -/
  cfg : RxCfg
  /-- R24. -/
  pcfg : RxCfg
  /-- R40, R144: bit 0 is the oldest bit. -/
  win : BitVec 13
  /-- R40. -/
  winCount : Nat
  /-- R41. -/
  skip : Nat
  /-- R42. -/
  eolCount : Int
  /-- R43. -/
  complete : Bool
  /-- R44. -/
  rowIs2d : Bool
  /-- R45. -/
  a0 : Int
  /-- R45. -/
  color : Color
  /-- R45. -/
  runAcc : Nat
  /-- R45. -/
  hpair : HPair
  /-- R45. -/
  codes : Nat
  /-- R46. -/
  curRuns : List Nat
  /-- R46. -/
  refRuns : List Nat
  /-- `IMG` (R47, R71). -/
  img : Memory
  /-- R47. -/
  rows : Nat
  /-- R47. -/
  imgCapRows : Nat
  /-- R48. -/
  nomem : Bool
  /-- R48. -/
  invalid : Bool
  /-- R48. -/
  bitsInRow : Nat
  /-- R48. -/
  pageBits : Nat
  /-- R49. -/
  overflow : Bool
  /-- R50. -/
  page : PageStats
  /-- R51. -/
  stats : Stats
  /-- The model's own field: the allocator oracle. -/
  alloc : Alloc
  /-- The `row_write` calls made, oldest first (R314). -/
  sink : List SinkCall
  /-- The diagnostic trace, oldest first (R247); nothing reads it. -/
  trace : List TraceEvent
  /-- The opaque host value passed to `row_write` (R313). -/
  userData : Nat
deriving DecidableEq, Repr

/-! ## Results -/

/-- The result of a host command (R108, R109). -/
inductive CmdResult where
  /-- A 4-bit `STATUS`. -/
  | status (code : BitVec 4)
  /-- 0 or 1, of TX_NEXT_PAGE_DIFFERENT. -/
  | flag (value : BitVec 1)
  /-- A 4-bit `BITRES`. -/
  | bit (value : BitVec 4)
  /-- An 11-bit `BYTERES`. -/
  | byte (value : BitVec 11)
  /-- A 32-bit `CHUNKRES`, and the host buffer as the command leaves it. -/
  | chunk (value : Word) (buf : List Byte)
  /-- The statistics record. -/
  | stats (record : Stats)
deriving DecidableEq, Repr

/-- The host interface: the commands not yet run, oldest first, and the result of the last one (R8, R85). -/
structure HostPort where
  /-- The model's own field: what the host has issued (log 1). -/
  queue : List Command
  /-- The last command's result (R14, log 30). -/
  result : Option CmdResult
deriving DecidableEq, Repr

/-- The whole machine: the parameters, the two channels, the host interface. -/
structure State where
  /-- Never written (log 6). -/
  par : Params
  enc : Enc
  dec : Dec
  host : HostPort
deriving DecidableEq, Repr

/-! ## Stopping -/

/-- Why the machine faults: the fault mark of R333 and R354 (log 10). Every one of them is safe: the model stops. -/
inductive Fault where
  /-- Raised by `appendRun` and `addRun`: a run, the open run or the row's total would reach `2^31` (R12, R333). Safe. -/
  | runLimit
  /-- Raised where `page_bits`, `rows` of a channel or a statistics word would pass `2^32 - 1` (R333). Safe. -/
  | counterLimit
  /-- Raised by a read of a byte of `IMG` or `OUT` that nothing has written (R352, log 14). Safe. -/
  | unwrittenByte (index : Nat)
  /-- Raised by a read of the page bitstream past its end (R143: delivery never overtakes `E`). Safe. -/
  | pastEnd (index : Nat)
  /-- Raised by the page machinery on a page configuration or a `k` that is `UNSET` (R24, R25, R352). Safe. -/
  | unsetRead
deriving DecidableEq, Repr

/-- Why the machine refuses: the refusal mark of R330 and R354, and the host duties of R331 (log 10). The model has no
transition there. A refusal of R330 is safe. A refusal for a host duty assumes nothing: the run stops. -/
inductive Refusal where
  /-- An instruction without a meaning, by its mnemonic. Raised by `exec` only. Safe. -/
  | notModelled (mnemonic : String)
  /-- An opcode that R108 does not list (R110, R330). Raised by `step`. Safe. -/
  | reservedOpcode (op : Byte)
  /-- A command not admitted in the channel's lifecycle state (R312, R330), or a code word while no page is in progress,
  when the decoder reads none (R91, R200). Raised by every meaning's admission check. Safe. -/
  | notAdmitted (life : Life)
  /-- A MODE operand of 3 (R111, R330). Raised by SET_MODE. Safe. -/
  | reservedMode
  /-- A width outside `1 .. W_MAX` (R283, R330). Raised by SET_WIDTH. Safe. -/
  | widthRange
  /-- A `max_len` above `2^31 - 1` (R293, R330). Raised by GET_CHUNK. Safe. -/
  | chunkRange
  /-- GET_BYTE or GET_CHUNK with `out_pos mod 8 != 0` (R76, R330). Safe. -/
  | unaligned
  /-- START_PAGE without the configuration it needs (R23, R287, R306, R330). Safe. -/
  | unconfigured
  /-- A host buffer shorter than the command's length operand (R331). Raised by the chunk commands. Safe. -/
  | shortBuffer
  /-- A positive `row_read` count that is not `BYTES_PER_ROW`, or a buffer that does not hold the row (R177, R331). Raised
  by the row pull. Safe. -/
  | shortRow (count : Int)
deriving DecidableEq, Repr

/-- What an operation answers: a value, a fault or a refusal. -/
abbrev Res (α : Type) := Host.Outcome α Fault Refusal

/-! ## Power-on -/

/-- `cfg` of the encoder at power-on and after INIT (R23). -/
def TxCfg.initial : TxCfg := ⟨none, none, none, none, some 0⟩

/-- `pcfg` of the encoder at power-on and after INIT: every field `UNSET` (R24). -/
def TxCfg.unset : TxCfg := ⟨none, none, none, none, none⟩

/-- `cfg` and `pcfg` of the decoder at power-on and after INIT: every field `UNSET` (R23, R24). -/
def RxCfg.unset : RxCfg := ⟨none, none, none, none⟩

/-- The page statistics as START_PAGE leaves them (R50). -/
def PageStats.initial : PageStats := ⟨0, 0, 0, none, none⟩

/-- A statistics snapshot of zero words (R51). -/
def Stats.zero : Stats := ⟨0, 0, 0, 0, 0, 0, 0, 0, 0⟩

/-- The encoder at power-on (R352; the entries that table leaves unspecified are 0, empty or `NONE`, log 11). -/
def Enc.reset : Enc where
  life := .uninit
  cfg := .initial
  pcfg := .unset
  k := none
  refRuns := []
  curRow := []
  curRuns := []
  rowsTo1d := 0
  acc := 0
  accBits := 0
  out := []
  outBytes := 0
  outCap := 0
  rowBits := 0
  srcDone := false
  termDone := false
  rowReadError := false
  nomem := false
  outPos := 0
  rows := 0
  page := .initial
  stats := .zero
  alloc := ⟨[], 0⟩
  source := ⟨[], 0, [], 0⟩
  reads := []
  userData := 0

/-- The decoder at power-on (R353; the entries that table leaves unspecified are 0, white, empty or `NONE`, log 11). -/
def Dec.reset : Dec where
  life := .uninit
  cfg := .unset
  pcfg := .unset
  win := 0
  winCount := 0
  skip := 0
  eolCount := 0
  complete := false
  rowIs2d := false
  a0 := 0
  color := .white
  runAcc := 0
  hpair := .none
  codes := 0
  curRuns := []
  refRuns := []
  img := []
  rows := 0
  imgCapRows := 0
  nomem := false
  invalid := false
  bitsInRow := 0
  pageBits := 0
  overflow := false
  page := .initial
  stats := .zero
  alloc := ⟨[], 0⟩
  sink := []
  trace := []
  userData := 0

/-- The machine right after power-on (R350, R351): both channels in `UNINIT`, waiting for a command. -/
def State.reset : State where
  par := Config.params
  enc := .reset
  dec := .reset
  host := ⟨[], none⟩

end Sys2Proof.Machine
end

