-- ==== Sys2Proof/Machine/Ops.lean ====
section
/-! DEFINITION. The named operations over the machine's parts: the answers of an operation (`Res`), the byte buffers (R13,
R70), the allocator oracle (R13, R81 to R83), the bit packer of both channels (`42_bit_packer.md`), the row cursors of the
decoder (R211, R212, R215) and the updates of the whole state.

The block takes no exception and returns from none (R320): there is no entry or return operation. What stands in its place
is the page error: `Enc.nomem` and `Dec.nomem`, set by a failed growth (R324), and the statuses of `Flags.lean`. -/

namespace Sys2Proof.Machine

/-! ## Answers -/

/-- Go on with an answer, or stop as it stopped. -/
def andThen {α β : Type} (r : Res α) (f : α → Res β) : Res β :=
  match r with
  | .next a => f a
  | .fault x => .fault x
  | .refused x => .refused x

/-- Go on under a condition that the spec puts on a command, or refuse (R330, R331). -/
def admitIf {α : Type} (c : Bool) (r : Refusal) (k : Res α) : Res α := if c then k else .refused r

/-! ## Byte buffers (R13, R70) -/

/-- The form of a buffer: indices strictly rise. -/
def Memory.wf (m : Memory) : Bool := decide (m.Pairwise fun a b => a.1 < b.1)

/-- The byte at an index, if anything was written there. -/
def readByte : Memory → Nat → Option Byte
  | [], _ => none
  | (a, v) :: m, i => if a = i then some v else readByte m i

/-- Write one byte, in order. -/
def writeByte : Memory → Nat → Byte → Memory
  | [], i, v => [(i, v)]
  | (a, u) :: m, i, v =>
    if i < a then (i, v) :: (a, u) :: m
    else if a = i then (i, v) :: m
    else (a, u) :: writeByte m i v

/-- `MemRead(buf, addr, n)` (R13). -/
def memRead (m : Memory) (addr : Nat) : Nat → Res (List Byte)
  | 0 => .next []
  | n + 1 =>
    match readByte m addr with
    | some v => andThen (memRead m (addr + 1) n) fun vs => .next (v :: vs)
    | none => .fault (.unwrittenByte addr)

/-- `MemWrite(buf, addr, n, v)` (R13): the bytes `v` from index `addr` on. -/
def memWrite (m : Memory) (addr : Nat) : List Byte → Memory
  | [] => m
  | v :: vs => memWrite (writeByte m addr v) (addr + 1) vs

/-! ## The allocator oracle (R13, D28) -/

/-- One `Grow`: the next scripted answer, or else the free value of that draw. -/
def Alloc.grow (free : Nat → Bool) (a : Alloc) : Bool × Alloc :=
  match a.script with
  | ok :: rest => (ok, ⟨rest, a.draws + 1⟩)
  | [] => (free a.draws, ⟨[], a.draws + 1⟩)

/-! ## The encode accumulator (R140 to R143) -/

/-- A register with bit `i` set to `b`. -/
def putBit {w : Nat} (v : BitVec w) (i : Nat) (b : Bool) : BitVec w :=
  (v &&& ~~~(1#w <<< i)) ||| ((BitVec.ofBool b).setWidth w <<< i)

/-- `zeros(n)` (R10). -/
def zeros (n : Nat) : List Bool := List.replicate n false

/-- `E`, the emitted length of the page bitstream (R140, R295). -/
def Enc.emitted (e : Enc) : Nat := 8 * e.outBytes + e.accBits

/-- Store the accumulator's byte in `OUT` and empty the accumulator (R141). -/
def Enc.storeByte (e : Enc) : Enc :=
  { e with
    out := writeByte e.out e.outBytes (e.acc.setWidth 8)
    outBytes := e.outBytes + 1
    acc := 0
    accBits := 0 }

/-- A completed byte (R141, R82): grow `OUT` if it is full, then store the byte; if growth fails, the byte is lost and the
page is aborted. -/
def Enc.completeByte (grow : Nat) (e : Enc) : Enc :=
  if e.outBytes = e.outCap then
    match e.alloc.grow Config.txAllocAnswer with
    | (true, a) => { e with alloc := a, outCap := e.outCap + grow }.storeByte
    | (false, a) => { e with alloc := a, nomem := true, acc := 0, accBits := 0 }
  else e.storeByte

/-- One bit into the accumulator (R141). -/
def Enc.emitBit (grow : Nat) (b : Bool) (e : Enc) : Enc :=
  let e := { e with acc := putBit e.acc e.accBits b, accBits := e.accBits + 1 }
  if e.accBits = 8 then e.completeByte grow else e

/-- The loop of `emit` (R141): the bits in order, until a growth fails. -/
def Enc.emitBits (grow : Nat) : List Bool → Enc → Enc
  | [], e => e
  | b :: bs, e => if e.nomem then e else Enc.emitBits grow bs (e.emitBit grow b)

/-- `emit(s)` (R141). -/
def Enc.emit (grow : Nat) (s : List Bool) (e : Enc) : Enc :=
  if e.nomem then e
  else
    let e := e.emitBits grow s
    if e.nomem then e else { e with rowBits := e.rowBits + s.length }

/-- A sequence of `emit`s: each bit string is one. -/
def Enc.emitAll (grow : Nat) : List (List Bool) → Enc → Enc
  | [], e => e
  | s :: ss, e => Enc.emitAll grow ss (e.emit grow s)

/-- `pad()`, the flush at page end (R142). -/
def Enc.pad (grow : Nat) (e : Enc) : Enc := e.emit grow (zeros ((8 - e.accBits) % 8))

/-- Bit `S[k]` of the page bitstream (R140, R72, R143). -/
def Enc.streamBit (e : Enc) (k : Nat) : Res Bool :=
  if k < 8 * e.outBytes then
    match readByte e.out (k / 8) with
    | some v => .next (v.getLsbD (k % 8))
    | none => .fault (.unwrittenByte (k / 8))
  else if k < e.emitted then .next (e.acc.getLsbD (k - 8 * e.outBytes))
  else .fault (.pastEnd k)

/-- The bits `S[k] .. S[k + n - 1]`. -/
def Enc.streamBits (e : Enc) (k : Nat) : Nat → Res (List Bool)
  | 0 => .next []
  | n + 1 => andThen (e.streamBit k) fun b => andThen (e.streamBits (k + 1) n) fun bs => .next (b :: bs)

/-- The value of bits given oldest first: bit `j` has weight `2^j` (R72). -/
def byteOfBits (bs : List Bool) : Byte := BitVec.ofNat 8 (windowValue bs)

/-- The bits of a bitstream byte, oldest first (R74, R148). -/
def bitsOfByte (v : Byte) : List Bool := (List.range 8).map fun j => v.getLsbD j

/-! ## The decode window (R144 to R147) -/

/-- The window as the decisions read it: bits at or above `win_count` are 0 (R144, R241). -/
def Dec.view (d : Dec) : BitVec 13 := d.win &&& BitVec.ofNat 13 (2 ^ d.winCount - 1)

/-- `append(b)` (R145), but for the count of page bits. -/
def Dec.append (d : Dec) (b : Bool) : Dec :=
  { d with win := putBit d.win d.winCount b, winCount := d.winCount + 1, pageBits := d.pageBits + 1 }

/-- `drop(n)` (R147). -/
def Dec.drop (d : Dec) (n : Nat) : Dec := { d with win := d.win >>> n, winCount := d.winCount - n }

/-! ## The row in progress (R211, R212, R215, R216) -/

/-- `log E` (R14, R247). -/
def Dec.log (d : Dec) (ev : TraceEvent) : Dec := { d with trace := d.trace ++ [ev] }

/-- `row_len()` (R212). -/
def Dec.rowLen (d : Dec) : Nat := d.curRuns.sum + d.runAcc

/-- `row_reset()` (R211). -/
def Dec.rowReset (d : Dec) : Dec :=
  { d with
    curRuns := []
    runAcc := 0
    a0 := -1
    color := .white
    hpair := .none
    codes := 0
    overflow := false }

/-- `append_run(v)` (R215), with the overflow of R216 and the bounds of R12 and R333 (log 15). `cap` is `RUNS_CAP`. -/
def Dec.appendRun (cap v : Nat) (d : Dec) : Res Dec :=
  if Config.runLimit ≤ v then .fault .runLimit
  else if cap - 2 ≤ d.curRuns.length then .next { d with overflow := true }
  else if Config.runLimit ≤ d.curRuns.sum + v then .fault .runLimit
  else .next { d with curRuns := d.curRuns ++ [v] }

/-- `dec.run_acc <- dec.run_acc + n`, with the bounds of R12 and R333 (log 15). -/
def Dec.addRun (n : Nat) (d : Dec) : Res Dec :=
  if Config.runLimit ≤ d.curRuns.sum + d.runAcc + n then .fault .runLimit
  else .next { d with runAcc := d.runAcc + n }

/-! ## Statistics words -/

/-- A statistics word that holds a number, which must fit (R51, R333). -/
def statWord (n : Nat) : Res Word :=
  if n < Config.wordLimit then .next (BitVec.ofNat 32 n) else .fault .counterLimit

/-- `min` of a page statistic and a row's bits; `NONE` is no bound (R180, R273). -/
def minBits (m : Option Nat) (n : Nat) : Option Nat := some (m.elim n fun a => min a n)

/-- `max` of a page statistic and a row's bits; `NONE` is no bound (R180, R273). -/
def maxBits (m : Option Nat) (n : Nat) : Option Nat := some (m.elim n fun a => max a n)

/-! ## The whole state -/

/-- The state with another encoder. -/
def State.withEnc (s : State) (e : Enc) : State := { s with enc := e }

/-- The state with another decoder. -/
def State.withDec (s : State) (d : Dec) : State := { s with dec := d }

/-- The state with a command's result (R14). -/
def State.withResult (s : State) (r : CmdResult) : State := { s with host := { s.host with result := some r } }

/-- The state with another queue of commands. -/
def State.withQueue (s : State) (q : List Command) : State := { s with host := { s.host with queue := q } }

/-- The end of an encoder command: its channel and its result. -/
def State.finishTx (s : State) (e : Enc) (r : CmdResult) : Res State := .next ((s.withEnc e).withResult r)

/-- The end of a decoder command: its channel and its result. -/
def State.finishRx (s : State) (d : Dec) (r : CmdResult) : Res State := .next ((s.withDec d).withResult r)

end Sys2Proof.Machine
end

