-- ==== Sys2Proof/Machine/Scanner.lean ====
section
/-! DEFINITION. The row scanner and the changing elements (`41_row_scanner.md`): pure functions between packed rows, pixels
and runs (R120 to R124), and the positions the two-dimensional code is made of (R125 to R128). -/

namespace Sys2Proof.Machine

/-- `BYTES_PER_ROW = ceil(W/8)` (R9). -/
def bytesPerRow (w : Nat) : Nat := (w + 7) / 8

/-- `unpack(row, W)` (R123): pixel `i` is bit `7 - (i mod 8)` of byte `floor(i/8)`; pad bits are not read (R79). -/
def unpack (row : List Byte) (w : Nat) : List Color :=
  (List.range w).map fun i => if (row.getD (i / 8) 0).getLsbD (7 - i % 8) then .black else .white

/-- Byte `j` of a packed row (R123): the leftmost pixel is bit 7, pad bits are 0 (R79). -/
def packByte (px : List Color) (j : Nat) : Byte :=
  BitVec.ofNat 8 ((List.range 8).map fun k => if px.getD (8 * j + k) .white = .black then 2 ^ (7 - k) else 0).sum

/-- `pack(px)` (R123). -/
def pack (px : List Color) : List Byte := (List.range (bytesPerRow px.length)).map (packByte px)

/-- The scan of R121 from an expected colour and the pixels of it counted so far. -/
def runsFrom : Color → Nat → List Color → List Nat
  | _, n, [] => [n]
  | c, n, p :: ps => if p = c then runsFrom c (n + 1) ps else n :: runsFrom c.flip 1 ps

/-- `runs_of(px)` (R121). -/
def runsOf (px : List Color) : List Nat := runsFrom .white 0 px

/-- `run_lengths_of_row(row, W)` (R120). -/
def runLengthsOfRow (row : List Byte) (w : Nat) : List Nat := runsOf (unpack row w)

/-- Runs of alternating colour as pixels (R124). -/
def spans : Color → List Nat → List Color
  | _, [] => []
  | c, r :: rs => List.replicate r c ++ spans c.flip rs

/-- `expand(R, W)` (R124): cut at `W`, or white up to `W`. -/
def expand (runs : List Nat) (w : Nat) : List Color :=
  let px := spans .white runs
  if w ≤ px.length then px.take w else px ++ List.replicate (w - px.length) .white

/-- The changing elements from position `i` on, each with its pixel's colour, where `prev` is the pixel before (R125). -/
def changesFrom : Color → Nat → List Color → List (Nat × Color)
  | _, _, [] => []
  | prev, i, p :: ps => if p = prev then changesFrom prev (i + 1) ps else (i, p) :: changesFrom p (i + 1) ps

/-- `C(L)`, in rising order, with the colour at each (R125): the pixel before column 0 is white. -/
def changes (px : List Color) : List (Nat × Color) := changesFrom .white 0 px

/-- `nextChange(L, p)` (R126). -/
def nextChange (px : List Color) (p : Int) : Nat :=
  match (changes px).find? fun x => p < x.1 with
  | some x => x.1
  | none => px.length

/-- `b1` (R128): the first changing element right of `a0` whose colour is not `color`. -/
def b1Of (ref : List Color) (a0 : Int) (color : Color) : Nat :=
  match (changes ref).find? fun x => decide (a0 < x.1) && x.2 != color with
  | some x => x.1
  | none => ref.length

/-- `b2` (R128): the changing element after `b1`. -/
def b2Of (ref : List Color) (a0 : Int) (color : Color) : Nat :=
  let b1 := b1Of ref a0 color
  if b1 < ref.length then nextChange ref b1 else ref.length

end Sys2Proof.Machine
end

