-- ==== Sys2Proof/Machine/Operands.lean ====
section
/-! DEFINITION. What an instruction reads besides its words: the page configuration of its channel (R24), the operand
values a command admits (R330), and the elements of a two-dimensional code (R213). -/

namespace Sys2Proof.Machine

/-! ## The page configuration -/

/-- What the decoder's page machinery reads of `pcfg` and of the parameters (R24). -/
structure RxPage where
  /-- `MODE`. -/
  mode : Mode
  /-- `W`. -/
  w : Nat
  /-- `RUNS_CAP = W + RUN_MARGIN` (R9). -/
  runsCap : Nat
  /-- `IMG_GROW_ROWS`. -/
  imgGrow : Nat
deriving DecidableEq, Repr

/-- What the encoder's page machinery reads of `pcfg`, of `k` and of the parameters (R24, R25). -/
structure TxPage where
  /-- `MODE`. -/
  mode : Mode
  /-- `W`. -/
  w : Nat
  /-- `k`, read in `T4_2D` only (R25); 0 elsewhere. -/
  k : Nat
  /-- `MIN_ROW_BITS`. -/
  minRowBits : Nat
  /-- `OUT_GROW_BYTES`. -/
  outGrow : Nat
deriving DecidableEq, Repr

/-- The decoder's page, while one is in progress. A code word, like a PUT command, has no transition outside a page. -/
def rxPage (s : State) : Res RxPage :=
  admitIf (s.dec.life == .inPage) (.notAdmitted s.dec.life) <|
    match s.dec.pcfg.mode, s.dec.pcfg.width with
    | some m, some w => .next ⟨m, w.toNat, w.toNat + s.par.runMargin, s.par.imgGrowRows⟩
    | _, _ => .fault .unsetRead

/-- `k` where a mode reads it (R25). -/
def txK (mode : Mode) (k : Option Nat) : Res Nat :=
  match mode, k with
  | .t42d, some k => .next k
  | .t42d, none => .fault .unsetRead
  | .t41d, _ => .next 0
  | .t6, _ => .next 0

/-- The encoder's page, while one is in progress. -/
def txPage (s : State) : Res TxPage :=
  admitIf (s.enc.life == .inPage) (.notAdmitted s.enc.life) <|
    match s.enc.pcfg.mode, s.enc.pcfg.width, s.enc.pcfg.minRowBits with
    | some m, some w, some b =>
      andThen (txK m s.enc.k) fun k => .next ⟨m, w.toNat, k, b.toNat, s.par.outGrowBytes⟩
    | _, _, _ => .fault .unsetRead

/-- A step of the decoder on the row in progress: nothing but the decoder changes. -/
def onRow (s : State) (f : RxPage → Dec → Res Dec) : Res State :=
  andThen (rxPage s) fun pg => andThen (f pg s.dec) fun d => .next (s.withDec d)

/-! ## Command operands -/

/-- The MODE codes of R111; 3 is reserved. -/
def modeOfCode (code : BitVec 2) : Option Mode :=
  match code.toNat with
  | 0 => some .t41d
  | 1 => some .t42d
  | 2 => some .t6
  | _ => none

/-- The code of a mode (R111). -/
def codeOfMode : Mode → Nat
  | .t41d => 0
  | .t42d => 1
  | .t6 => 2

/-- A width operand that SET_WIDTH admits: `1 .. W_MAX` (R283, R303). -/
def widthAdmitted (par : Params) (width : Word) : Bool :=
  decide (1 ≤ width.toNat) && decide (width.toNat ≤ par.wMax)

/-- A setter's admission: it is refused in `UNINIT` only (R312). -/
def setterAdmitted (life : Life) : Bool := life != .uninit

/-- `K_TABLE(yres)` (R176). -/
def kOf (par : Params) (yres : Word) : Nat :=
  match par.kTable.lookup yres.toNat with
  | some k => k
  | none => par.kDefault

/-! ## The operands of a two-dimensional code (R213) -/

/-- `p = max(a0, 0)`. -/
def Dec.start (d : Dec) : Int := max d.a0 0

/-- `b1` of the row in progress against the reference row's pixels (R213, R128, D22). -/
def Dec.b1 (pg : RxPage) (d : Dec) : Nat := b1Of (expand d.refRuns pg.w) d.a0 d.color

/-- `b2` of the row in progress (R213, R128, D22). -/
def Dec.b2 (pg : RxPage) (d : Dec) : Nat := b2Of (expand d.refRuns pg.w) d.a0 d.color

end Sys2Proof.Machine
end

