-- ==== Sys2Proof/Machine/Flags.lean ====
section
/-! DEFINITION. The values a command reports: STATUS and its priorities (R109, R243, R322, R334), the flag bits of the GET
results (R109, R295), and the limits that raise a flag (R210, R237). The block has no condition flags (43_line_encoder). -/

namespace Sys2Proof.Machine

/-! ## STATUS (R109, R322) -/

/-- Status 0: need more data. -/
def statusMoreData : BitVec 4 := 0

/-- Status 1: done; for PUT commands, the page is complete. -/
def statusOk : BitVec 4 := 1

/-- Status 4: a buffer growth failed. -/
def statusNomem : BitVec 4 := 4

/-- Status 5: a malformed two-dimensional state was reached during the command. -/
def statusInvalidData : BitVec 4 := 5

/-- Status 6: the page ended before its end pattern. -/
def statusPageTruncated : BitVec 4 := 6

/-- Status 7: the row source reported an error. -/
def statusReadError : BitVec 4 := 7

/-- `put_status()` (R243): NOMEM, then OK, then INVALID_DATA, then MORE_DATA. -/
def putStatus (d : Dec) : BitVec 4 :=
  if d.nomem then statusNomem
  else if d.complete then statusOk
  else if d.invalid then statusInvalidData
  else statusMoreData

/-- The status of RX_END_PAGE (R307, R334). -/
def rxEndStatus (d : Dec) : BitVec 4 :=
  if d.nomem then statusNomem else if d.complete then statusOk else statusPageTruncated

/-- The status of TX_END_PAGE (R288, R334). -/
def txEndStatus (e : Enc) : BitVec 4 :=
  if e.nomem then statusNomem
  else if e.rowReadError then statusReadError
  else if e.termDone then statusOk
  else statusPageTruncated

/-! ## GET results (R109, R295) -/

/-- `tx_err()` (R295). -/
def txErr (e : Enc) : Bool := e.nomem || e.rowReadError

/-- `BITRES` of a delivered bit: bit 0 the data, bit 1 the last flag. -/
def bitRes (data last : Bool) : BitVec 4 := BitVec.ofNat 4 (data.toNat + 2 * last.toNat)

/-- `BITRES` past the end: bit 2, and bit 3 the error flag. -/
def bitResEnd (error : Bool) : BitVec 4 := BitVec.ofNat 4 (4 + 8 * error.toNat)

/-- `BYTERES` of a delivered byte: bits 7..0 the data, bit 8 the last flag. -/
def byteRes (data : Byte) (last : Bool) : BitVec 11 := BitVec.ofNat 11 (data.toNat + 256 * last.toNat)

/-- `BYTERES` past the end: bit 9, and bit 10 the error flag. -/
def byteResEnd (error : Bool) : BitVec 11 := BitVec.ofNat 11 (512 + 1024 * error.toNat)

/-- `CHUNKRES`: bits 30..0 the count, bit 31 the error flag. -/
def chunkRes (count : Nat) (error : Bool) : Word := BitVec.ofNat 32 (count + 2 ^ 31 * error.toNat)

/-! ## Limits -/

/-- The EOL count that ends a page: 6 in T.4, 2 in T.6 (R210). -/
def eolThreshold : Mode → Int
  | .t41d => 6
  | .t42d => 6
  | .t6 => 2

/-- `MAX_ROW_CODES = 2*W + 2`, the T.6 backstop (R237). -/
def maxRowCodes (w : Nat) : Nat := 2 * w + 2

/-- A counter of R333, one higher: it must stay below `2^32`. -/
def counterFits (n : Nat) : Bool := decide (n + 1 < Config.wordLimit)

end Sys2Proof.Machine
end

