-- ==== Sys2Proof/Machine/PageBuffer.lean ====
section
/-! DEFINITION. The page buffer: row commit with the bad-row patch, substitution and statistics (`45_page_buffer.md`). -/

namespace Sys2Proof.Machine

/-! ## The patch (R263 to R268) -/

/-- A long row, cut at the run that reaches `W` (R267); `room` is `W` less the runs kept. -/
def truncateRuns : Nat → List Nat → List Nat
  | _, [] => []
  | room, r :: rs => if room ≤ r then [room] else r :: truncateRuns (room - r) rs

/-- A row ending on black, its last run longer by `d` (R264). -/
def extendLast (d : Nat) : List Nat → List Nat
  | [] => []
  | [r] => [r + d]
  | r :: s :: rs => r :: extendLast d (s :: rs)

/-- `patch(R, W)` (R263), the cases in the order of its table. -/
def patchRuns (w : Nat) (runs : List Nat) : List Nat :=
  let t := runs.sum
  if t = w then runs
  else if runs = [] then [w]
  else if t < w then
    if runs.length % 2 = 0 then extendLast (w - t) runs
    else if w - t = 1 then runs ++ [1]
    else runs ++ [1, w - t - 1]
  else truncateRuns w runs

/-! ## The stored row (R261, R262, R269) -/

/-- Is the row in progress good (R261)? -/
def Dec.rowGood (pg : RxPage) (d : Dec) : Bool := d.curRuns.sum == pg.w && !d.overflow

/-- `substitute()` (R269): the previous committed row, or an all-white one. -/
def Dec.substitute (pg : RxPage) (d : Dec) : Res (List Byte) :=
  if 0 < d.rows then memRead d.img ((d.rows - 1) * bytesPerRow pg.w) (bytesPerRow pg.w)
  else .next (List.replicate (bytesPerRow pg.w) 0)

/-- The bytes a row stores: its own pixels if it is good (R262), else the substitute (R269). -/
def Dec.rowData (pg : RxPage) (d : Dec) : Res (List Byte) :=
  if d.rowGood pg then .next (pack (expand d.curRuns pg.w)) else d.substitute pg

/-- The runs a row leaves as the reference: its own if it is good, else patched (R270). -/
def Dec.rowRuns (pg : RxPage) (d : Dec) : List Nat :=
  if d.rowGood pg then d.curRuns else patchRuns pg.w d.curRuns

/-- `fold_bad_run()` (R271). -/
def PageStats.foldBadRun (p : PageStats) : PageStats :=
  { p with longestBadRun := max p.longestBadRun p.curBadRun, curBadRun := 0 }

/-- The bad-row counters after a row (R260, R271). -/
def PageStats.countRow (good : Bool) (p : PageStats) : PageStats :=
  if good then (if 0 < p.curBadRun then p.foldBadRun else p)
  else { p with badRows := p.badRows + 1, curBadRun := p.curBadRun + 1 }

/-- The row bit statistics (R180, R273). -/
def PageStats.countBits (bits : Nat) (p : PageStats) : PageStats :=
  { p with minRowBits := minBits p.minRowBits bits, maxRowBits := maxBits p.maxRowBits bits }

/-! ## Commit (R260) -/

/-- The growth check that opens a commit (R272, R81): is there room, and the decoder after it. -/
def Dec.growImage (pg : RxPage) (d : Dec) : Bool × Dec :=
  if d.rows = d.imgCapRows then
    match d.alloc.grow Config.rxAllocAnswer with
    | (true, a) => (true, { d with alloc := a, imgCapRows := d.imgCapRows + pg.imgGrow })
    | (false, a) => (false, { d with alloc := a, nomem := true })
  else (true, d)

/-- A row ends with its open run closed (R260). -/
def Dec.closeRow (pg : RxPage) (d : Dec) : Res Dec :=
  if 0 < d.runAcc then d.appendRun pg.runsCap d.runAcc else .next d

/-- The effects of a commit once the row's bytes are known (R260, R270, R273, R274, R275): store, counters, reference,
statistics, row sink, cursor reset. -/
def Dec.storeRow (pg : RxPage) (d : Dec) (data : List Byte) : Dec :=
  Dec.rowReset
    { d with
      img := memWrite d.img (d.rows * bytesPerRow pg.w) data
      refRuns := d.rowRuns pg
      rows := d.rows + 1
      page := (d.page.countRow (d.rowGood pg)).countBits d.bitsInRow
      bitsInRow := 0
      sink := d.sink ++ [⟨d.userData, some data, bytesPerRow pg.w⟩] }

/-- `commit_row()` (R260). A failed growth commits nothing (R272); `dec.rows` passing `2^32 - 1` faults (R333). -/
def Dec.commitRow (pg : RxPage) (d : Dec) : Res Dec :=
  match d.growImage pg with
  | (false, d) => .next d
  | (true, d) =>
    andThen (d.closeRow pg) fun d =>
      andThen (d.rowData pg) fun data =>
        if counterFits d.rows then .next (d.storeRow pg data) else .fault .counterLimit

end Sys2Proof.Machine
end

