-- ==== Sys2Proof/Machine/LineDecoder.lean ====
section
/-! DEFINITION. The line decoder's shared operations (`44_line_decoder.md`): what a matched code word consumes, the Pass and
Vertical semantics, the run codes, the end of line, the row end. One decision's meaning per code word stands in
`WhiteCodes.lean`, `BlackCodes.lean`, `MakeupCodes.lean`, `ModeCodes.lean` and `EolCodes.lean`. -/

namespace Sys2Proof.Machine

/-! ## What a matched code word consumes (R205, R213, R228, R245) -/

/-- A matched code word of width `w`: its first bit is dropped, the others are left to skip, its bits are counted. -/
def Dec.matched (w : Nat) (d : Dec) : Dec := { d.drop 1 with skip := w - 1, bitsInRow := d.bitsInRow + w }

/-- A matched mode code of width `w`: it also counts as a code of the row (R213). -/
def Dec.matchedMode (w : Nat) (d : Dec) : Dec := { d.matched w with codes := d.codes + 1 }

/-- An unmatched bit: one bit dropped and counted, with a trace event (R227, R229). -/
def Dec.dropUnmatched (ev : TraceEvent) (d : Dec) : Dec := Dec.log { d.drop 1 with bitsInRow := d.bitsInRow + 1 } ev

/-! ## Row end (R236) -/

/-- `t6_row_end_check()` (R236, R237). -/
def Dec.t6RowEndCheck (pg : RxPage) (d : Dec) : Res Dec :=
  if pg.mode = .t6 ∧ (pg.w ≤ d.a0 ∨ maxRowCodes pg.w ≤ d.codes) then
    andThen (d.commitRow pg) fun d => .next { d with eolCount := 0 }
  else .next d

/-! ## Two-dimensional modes (R213 to R226) -/

/-- A geometrically invalid mode (R238): nothing but the flag and the trace. -/
def Dec.invalidMode (d : Dec) : Dec := Dec.log { d with invalid := true } .invalid

/-- Pass (R217), after its code word is consumed. -/
def Dec.pass (pg : RxPage) (d : Dec) : Res Dec :=
  if (d.b2 pg : Int) < d.start then .next d.invalidMode
  else
    andThen (d.addRun (d.b2 pg - d.start).toNat) fun d' =>
      { d' with a0 := d.b2 pg }.t6RowEndCheck pg

/-- `vertical(d)` (R214), after its code word is consumed; `off` is the offset `d` of R105. -/
def Dec.vertical (off : Int) (pg : RxPage) (d : Dec) : Res Dec :=
  let a1 : Int := d.b1 pg + off
  if a1 < d.start then .next d.invalidMode
  else
    andThen (d.appendRun pg.runsCap (d.runAcc + (a1 - d.start).toNat)) fun d' =>
      { d' with runAcc := 0, a0 := a1, color := d.color.flip }.t6RowEndCheck pg

/-- The decision on a Vertical code word of width `w` and offset `off` (R213, R219 to R225). -/
def verticalCode (w : Nat) (off : Int) (s : State) : Res State :=
  onRow s fun pg d => (d.matchedMode w).vertical off pg

/-! ## Run codes (R228 to R235) -/

/-- `hpair_advance()` (R235). -/
def Dec.hpairAdvance (pg : RxPage) (d : Dec) : Res Dec :=
  match d.hpair with
  | .none => .next d
  | .first => .next { d with hpair := .second }
  | .second => { d with hpair := .none, a0 := d.curRuns.sum }.t6RowEndCheck pg

/-- A terminating code of `n` pixels (R230, R231), after its code word is consumed. -/
def Dec.terminate (n : Nat) (pg : RxPage) (d : Dec) : Res Dec :=
  andThen (d.appendRun pg.runsCap (d.runAcc + n)) fun d' =>
    let d' := { d' with runAcc := 0, color := d.color.flip }
    if d'.rowIs2d then { d' with codes := d'.codes + 1 }.hpairAdvance pg else .next d'

/-- The decision on a terminating code word of width `w` for a run of `n` (R228, R230, R231). -/
def terminatingCode (w n : Nat) (s : State) : Res State :=
  onRow s fun pg d => (d.matched w).terminate n pg

/-- The decision on a make-up code word of width `w` for `m` pixels (R228, R232 to R234). -/
def makeupCode (w m : Nat) (s : State) : Res State := onRow s fun _ d => (d.matched w).addRun m

/-! ## End of line (R207 to R210) -/

/-- What an EOL does to the row in progress and to the EOL counter (R207, R208). -/
def Dec.eolRow (pg : RxPage) (d : Dec) : Res Dec :=
  if d.eolCount = -1 then .next { d with eolCount := 0 }.rowReset
  else if 0 < d.rowLen then andThen (d.commitRow pg) fun d => .next { d with eolCount := 1 }
  else .next { d with eolCount := d.eolCount + 1 }.rowReset

/-- The bits of an EOL: 12, or 13 with its tag (R92, R245). -/
def eolBits (tag : Option Bool) : Nat := if tag.isSome then 13 else 12

/-- The rest of an EOL, after the row's end (R207, R209, R210): tag, bit count, page end, trace. -/
def Dec.eolFinish (tag : Option Bool) (pg : RxPage) (d : Dec) : Dec :=
  Dec.log
    { d with
      rowIs2d := tag.elim d.rowIs2d fun t => !t
      bitsInRow := eolBits tag
      complete := d.complete || decide (eolThreshold pg.mode ≤ d.eolCount) }
    .eol

/-- `eol()` (R207): the EOL, with the tag bit that was read after it, if any. -/
def Dec.eol (tag : Option Bool) (pg : RxPage) (d : Dec) : Res Dec :=
  andThen (Dec.eolRow pg { d.drop (eolBits tag) with skip := 0 }) fun d => .next (d.eolFinish tag pg)

/-! ## Bits that are no code word (R205, R206, R229) -/

/-- `skip_bit()` (R205). -/
def Dec.skipBit (d : Dec) : Dec := { d.drop 1 with skip := d.skip - 1 }

/-- `hunt_bit()` (R206). -/
def Dec.huntBit (d : Dec) : Dec := d.drop 1

end Sys2Proof.Machine
end

