-- ==== Sys2Proof/Machine/BlackCodes.lean ====
section
/-! DEFINITION. The black terminating codes, `BT0` to `BT63` (R94, R231): the width of the code word and the run it closes. -/

namespace Sys2Proof.Machine

/-! ## Black terminating codes -/

/-- `BT0`, `0000110111` (R94): a run of 0 (R231). -/
def execBt0 (s : State) : Res State := terminatingCode 10 0 s

/-- `BT1`, `010` (R94): a run of 1 (R231). -/
def execBt1 (s : State) : Res State := terminatingCode 3 1 s

/-- `BT2`, `11` (R94): a run of 2 (R231). -/
def execBt2 (s : State) : Res State := terminatingCode 2 2 s

/-- `BT3`, `10` (R94): a run of 3 (R231). -/
def execBt3 (s : State) : Res State := terminatingCode 2 3 s

/-- `BT4`, `011` (R94): a run of 4 (R231). -/
def execBt4 (s : State) : Res State := terminatingCode 3 4 s

/-- `BT5`, `0011` (R94): a run of 5 (R231). -/
def execBt5 (s : State) : Res State := terminatingCode 4 5 s

/-- `BT6`, `0010` (R94): a run of 6 (R231). -/
def execBt6 (s : State) : Res State := terminatingCode 4 6 s

/-- `BT7`, `00011` (R94): a run of 7 (R231). -/
def execBt7 (s : State) : Res State := terminatingCode 5 7 s

/-- `BT8`, `000101` (R94): a run of 8 (R231). -/
def execBt8 (s : State) : Res State := terminatingCode 6 8 s

/-- `BT9`, `000100` (R94): a run of 9 (R231). -/
def execBt9 (s : State) : Res State := terminatingCode 6 9 s

/-- `BT10`, `0000100` (R94): a run of 10 (R231). -/
def execBt10 (s : State) : Res State := terminatingCode 7 10 s

/-- `BT11`, `0000101` (R94): a run of 11 (R231). -/
def execBt11 (s : State) : Res State := terminatingCode 7 11 s

/-- `BT12`, `0000111` (R94): a run of 12 (R231). -/
def execBt12 (s : State) : Res State := terminatingCode 7 12 s

/-- `BT13`, `00000100` (R94): a run of 13 (R231). -/
def execBt13 (s : State) : Res State := terminatingCode 8 13 s

/-- `BT14`, `00000111` (R94): a run of 14 (R231). -/
def execBt14 (s : State) : Res State := terminatingCode 8 14 s

/-- `BT15`, `000011000` (R94): a run of 15 (R231). -/
def execBt15 (s : State) : Res State := terminatingCode 9 15 s

/-- `BT16`, `0000010111` (R94): a run of 16 (R231). -/
def execBt16 (s : State) : Res State := terminatingCode 10 16 s

/-- `BT17`, `0000011000` (R94): a run of 17 (R231). -/
def execBt17 (s : State) : Res State := terminatingCode 10 17 s

/-- `BT18`, `0000001000` (R94): a run of 18 (R231). -/
def execBt18 (s : State) : Res State := terminatingCode 10 18 s

/-- `BT19`, `00001100111` (R94): a run of 19 (R231). -/
def execBt19 (s : State) : Res State := terminatingCode 11 19 s

/-- `BT20`, `00001101000` (R94): a run of 20 (R231). -/
def execBt20 (s : State) : Res State := terminatingCode 11 20 s

/-- `BT21`, `00001101100` (R94): a run of 21 (R231). -/
def execBt21 (s : State) : Res State := terminatingCode 11 21 s

/-- `BT22`, `00000110111` (R94): a run of 22 (R231). -/
def execBt22 (s : State) : Res State := terminatingCode 11 22 s

/-- `BT23`, `00000101000` (R94): a run of 23 (R231). -/
def execBt23 (s : State) : Res State := terminatingCode 11 23 s

/-- `BT24`, `00000010111` (R94): a run of 24 (R231). -/
def execBt24 (s : State) : Res State := terminatingCode 11 24 s

/-- `BT25`, `00000011000` (R94): a run of 25 (R231). -/
def execBt25 (s : State) : Res State := terminatingCode 11 25 s

/-- `BT26`, `000011001010` (R94): a run of 26 (R231). -/
def execBt26 (s : State) : Res State := terminatingCode 12 26 s

/-- `BT27`, `000011001011` (R94): a run of 27 (R231). -/
def execBt27 (s : State) : Res State := terminatingCode 12 27 s

/-- `BT28`, `000011001100` (R94): a run of 28 (R231). -/
def execBt28 (s : State) : Res State := terminatingCode 12 28 s

/-- `BT29`, `000011001101` (R94): a run of 29 (R231). -/
def execBt29 (s : State) : Res State := terminatingCode 12 29 s

/-- `BT30`, `000001101000` (R94): a run of 30 (R231). -/
def execBt30 (s : State) : Res State := terminatingCode 12 30 s

/-- `BT31`, `000001101001` (R94): a run of 31 (R231). -/
def execBt31 (s : State) : Res State := terminatingCode 12 31 s

/-- `BT32`, `000001101010` (R94): a run of 32 (R231). -/
def execBt32 (s : State) : Res State := terminatingCode 12 32 s

/-- `BT33`, `000001101011` (R94): a run of 33 (R231). -/
def execBt33 (s : State) : Res State := terminatingCode 12 33 s

/-- `BT34`, `000011010010` (R94): a run of 34 (R231). -/
def execBt34 (s : State) : Res State := terminatingCode 12 34 s

/-- `BT35`, `000011010011` (R94): a run of 35 (R231). -/
def execBt35 (s : State) : Res State := terminatingCode 12 35 s

/-- `BT36`, `000011010100` (R94): a run of 36 (R231). -/
def execBt36 (s : State) : Res State := terminatingCode 12 36 s

/-- `BT37`, `000011010101` (R94): a run of 37 (R231). -/
def execBt37 (s : State) : Res State := terminatingCode 12 37 s

/-- `BT38`, `000011010110` (R94): a run of 38 (R231). -/
def execBt38 (s : State) : Res State := terminatingCode 12 38 s

/-- `BT39`, `000011010111` (R94): a run of 39 (R231). -/
def execBt39 (s : State) : Res State := terminatingCode 12 39 s

/-- `BT40`, `000001101100` (R94): a run of 40 (R231). -/
def execBt40 (s : State) : Res State := terminatingCode 12 40 s

/-- `BT41`, `000001101101` (R94): a run of 41 (R231). -/
def execBt41 (s : State) : Res State := terminatingCode 12 41 s

/-- `BT42`, `000011011010` (R94): a run of 42 (R231). -/
def execBt42 (s : State) : Res State := terminatingCode 12 42 s

/-- `BT43`, `000011011011` (R94): a run of 43 (R231). -/
def execBt43 (s : State) : Res State := terminatingCode 12 43 s

/-- `BT44`, `000001010100` (R94): a run of 44 (R231). -/
def execBt44 (s : State) : Res State := terminatingCode 12 44 s

/-- `BT45`, `000001010101` (R94): a run of 45 (R231). -/
def execBt45 (s : State) : Res State := terminatingCode 12 45 s

/-- `BT46`, `000001010110` (R94): a run of 46 (R231). -/
def execBt46 (s : State) : Res State := terminatingCode 12 46 s

/-- `BT47`, `000001010111` (R94): a run of 47 (R231). -/
def execBt47 (s : State) : Res State := terminatingCode 12 47 s

/-- `BT48`, `000001100100` (R94): a run of 48 (R231). -/
def execBt48 (s : State) : Res State := terminatingCode 12 48 s

/-- `BT49`, `000001100101` (R94): a run of 49 (R231). -/
def execBt49 (s : State) : Res State := terminatingCode 12 49 s

/-- `BT50`, `000001010010` (R94): a run of 50 (R231). -/
def execBt50 (s : State) : Res State := terminatingCode 12 50 s

/-- `BT51`, `000001010011` (R94): a run of 51 (R231). -/
def execBt51 (s : State) : Res State := terminatingCode 12 51 s

/-- `BT52`, `000000100100` (R94): a run of 52 (R231). -/
def execBt52 (s : State) : Res State := terminatingCode 12 52 s

/-- `BT53`, `000000110111` (R94): a run of 53 (R231). -/
def execBt53 (s : State) : Res State := terminatingCode 12 53 s

/-- `BT54`, `000000111000` (R94): a run of 54 (R231). -/
def execBt54 (s : State) : Res State := terminatingCode 12 54 s

/-- `BT55`, `000000100111` (R94): a run of 55 (R231). -/
def execBt55 (s : State) : Res State := terminatingCode 12 55 s

/-- `BT56`, `000000101000` (R94): a run of 56 (R231). -/
def execBt56 (s : State) : Res State := terminatingCode 12 56 s

/-- `BT57`, `000001011000` (R94): a run of 57 (R231). -/
def execBt57 (s : State) : Res State := terminatingCode 12 57 s

/-- `BT58`, `000001011001` (R94): a run of 58 (R231). -/
def execBt58 (s : State) : Res State := terminatingCode 12 58 s

/-- `BT59`, `000000101011` (R94): a run of 59 (R231). -/
def execBt59 (s : State) : Res State := terminatingCode 12 59 s

/-- `BT60`, `000000101100` (R94): a run of 60 (R231). -/
def execBt60 (s : State) : Res State := terminatingCode 12 60 s

/-- `BT61`, `000001011010` (R94): a run of 61 (R231). -/
def execBt61 (s : State) : Res State := terminatingCode 12 61 s

/-- `BT62`, `000001100110` (R94): a run of 62 (R231). -/
def execBt62 (s : State) : Res State := terminatingCode 12 62 s

/-- `BT63`, `000001100111` (R94): a run of 63 (R231). -/
def execBt63 (s : State) : Res State := terminatingCode 12 63 s

end Sys2Proof.Machine
end

