-- ==== Sys2Proof/Machine/EolCodes.lean ====
section
/-! DEFINITION. The end-of-line forms (R92, R207, R209). -/

namespace Sys2Proof.Machine

/-- `EOL`, `000000000001` (R207). In `T4_2D` an EOL is read with the bit after it, its tag (R209). -/
def execEol (s : State) : Res State :=
  onRow s fun pg d => d.eol (if pg.mode = .t42d then some (d.view.getLsbD 12) else none) pg

/-- `EOL1`, `0000000000011`: an EOL and the tag 1, a 1D row follows (R209). -/
def execEol1 (s : State) : Res State := onRow s fun pg d => d.eol (some true) pg

/-- `EOL0`, `0000000000010`: an EOL and the tag 0, a 2D row follows (R209). -/
def execEol0 (s : State) : Res State := onRow s fun pg d => d.eol (some false) pg

end Sys2Proof.Machine
end

