-- ==== Sys2Proof/Machine/MakeupCodes.lean ====
section
/-! DEFINITION. The make-up codes (R95 to R97, R232 to R234): the width of the code word and the pixels it adds to the open run. -/

namespace Sys2Proof.Machine

/-! ## White make-up codes -/

/-- `WM64`, `11011` (R95): make-up of 64 (R232). -/
def execWm64 (s : State) : Res State := makeupCode 5 64 s

/-- `WM128`, `10010` (R95): make-up of 128 (R232). -/
def execWm128 (s : State) : Res State := makeupCode 5 128 s

/-- `WM192`, `010111` (R95): make-up of 192 (R232). -/
def execWm192 (s : State) : Res State := makeupCode 6 192 s

/-- `WM256`, `0110111` (R95): make-up of 256 (R232). -/
def execWm256 (s : State) : Res State := makeupCode 7 256 s

/-- `WM320`, `00110110` (R95): make-up of 320 (R232). -/
def execWm320 (s : State) : Res State := makeupCode 8 320 s

/-- `WM384`, `00110111` (R95): make-up of 384 (R232). -/
def execWm384 (s : State) : Res State := makeupCode 8 384 s

/-- `WM448`, `01100100` (R95): make-up of 448 (R232). -/
def execWm448 (s : State) : Res State := makeupCode 8 448 s

/-- `WM512`, `01100101` (R95): make-up of 512 (R232). -/
def execWm512 (s : State) : Res State := makeupCode 8 512 s

/-- `WM576`, `01101000` (R95): make-up of 576 (R232). -/
def execWm576 (s : State) : Res State := makeupCode 8 576 s

/-- `WM640`, `01100111` (R95): make-up of 640 (R232). -/
def execWm640 (s : State) : Res State := makeupCode 8 640 s

/-- `WM704`, `011001100` (R95): make-up of 704 (R232). -/
def execWm704 (s : State) : Res State := makeupCode 9 704 s

/-- `WM768`, `011001101` (R95): make-up of 768 (R232). -/
def execWm768 (s : State) : Res State := makeupCode 9 768 s

/-- `WM832`, `011010010` (R95): make-up of 832 (R232). -/
def execWm832 (s : State) : Res State := makeupCode 9 832 s

/-- `WM896`, `011010011` (R95): make-up of 896 (R232). -/
def execWm896 (s : State) : Res State := makeupCode 9 896 s

/-- `WM960`, `011010100` (R95): make-up of 960 (R232). -/
def execWm960 (s : State) : Res State := makeupCode 9 960 s

/-- `WM1024`, `011010101` (R95): make-up of 1024 (R232). -/
def execWm1024 (s : State) : Res State := makeupCode 9 1024 s

/-- `WM1088`, `011010110` (R95): make-up of 1088 (R232). -/
def execWm1088 (s : State) : Res State := makeupCode 9 1088 s

/-- `WM1152`, `011010111` (R95): make-up of 1152 (R232). -/
def execWm1152 (s : State) : Res State := makeupCode 9 1152 s

/-- `WM1216`, `011011000` (R95): make-up of 1216 (R232). -/
def execWm1216 (s : State) : Res State := makeupCode 9 1216 s

/-- `WM1280`, `011011001` (R95): make-up of 1280 (R232). -/
def execWm1280 (s : State) : Res State := makeupCode 9 1280 s

/-- `WM1344`, `011011010` (R95): make-up of 1344 (R232). -/
def execWm1344 (s : State) : Res State := makeupCode 9 1344 s

/-- `WM1408`, `011011011` (R95): make-up of 1408 (R232). -/
def execWm1408 (s : State) : Res State := makeupCode 9 1408 s

/-- `WM1472`, `010011000` (R95): make-up of 1472 (R232). -/
def execWm1472 (s : State) : Res State := makeupCode 9 1472 s

/-- `WM1536`, `010011001` (R95): make-up of 1536 (R232). -/
def execWm1536 (s : State) : Res State := makeupCode 9 1536 s

/-- `WM1600`, `010011010` (R95): make-up of 1600 (R232). -/
def execWm1600 (s : State) : Res State := makeupCode 9 1600 s

/-- `WM1664`, `011000` (R95): make-up of 1664 (R232). -/
def execWm1664 (s : State) : Res State := makeupCode 6 1664 s

/-- `WM1728`, `010011011` (R95): make-up of 1728 (R232). -/
def execWm1728 (s : State) : Res State := makeupCode 9 1728 s


/-! ## Black make-up codes -/

/-- `BM64`, `0000001111` (R96): make-up of 64 (R233). -/
def execBm64 (s : State) : Res State := makeupCode 10 64 s

/-- `BM128`, `000011001000` (R96): make-up of 128 (R233). -/
def execBm128 (s : State) : Res State := makeupCode 12 128 s

/-- `BM192`, `000011001001` (R96): make-up of 192 (R233). -/
def execBm192 (s : State) : Res State := makeupCode 12 192 s

/-- `BM256`, `000001011011` (R96): make-up of 256 (R233). -/
def execBm256 (s : State) : Res State := makeupCode 12 256 s

/-- `BM320`, `000000110011` (R96): make-up of 320 (R233). -/
def execBm320 (s : State) : Res State := makeupCode 12 320 s

/-- `BM384`, `000000110100` (R96): make-up of 384 (R233). -/
def execBm384 (s : State) : Res State := makeupCode 12 384 s

/-- `BM448`, `000000110101` (R96): make-up of 448 (R233). -/
def execBm448 (s : State) : Res State := makeupCode 12 448 s

/-- `BM512`, `0000001101100` (R96): make-up of 512 (R233). -/
def execBm512 (s : State) : Res State := makeupCode 13 512 s

/-- `BM576`, `0000001101101` (R96): make-up of 576 (R233). -/
def execBm576 (s : State) : Res State := makeupCode 13 576 s

/-- `BM640`, `0000001001010` (R96): make-up of 640 (R233). -/
def execBm640 (s : State) : Res State := makeupCode 13 640 s

/-- `BM704`, `0000001001011` (R96): make-up of 704 (R233). -/
def execBm704 (s : State) : Res State := makeupCode 13 704 s

/-- `BM768`, `0000001001100` (R96): make-up of 768 (R233). -/
def execBm768 (s : State) : Res State := makeupCode 13 768 s

/-- `BM832`, `0000001001101` (R96): make-up of 832 (R233). -/
def execBm832 (s : State) : Res State := makeupCode 13 832 s

/-- `BM896`, `0000001110010` (R96): make-up of 896 (R233). -/
def execBm896 (s : State) : Res State := makeupCode 13 896 s

/-- `BM960`, `0000001110011` (R96): make-up of 960 (R233). -/
def execBm960 (s : State) : Res State := makeupCode 13 960 s

/-- `BM1024`, `0000001110100` (R96): make-up of 1024 (R233). -/
def execBm1024 (s : State) : Res State := makeupCode 13 1024 s

/-- `BM1088`, `0000001110101` (R96): make-up of 1088 (R233). -/
def execBm1088 (s : State) : Res State := makeupCode 13 1088 s

/-- `BM1152`, `0000001110110` (R96): make-up of 1152 (R233). -/
def execBm1152 (s : State) : Res State := makeupCode 13 1152 s

/-- `BM1216`, `0000001110111` (R96): make-up of 1216 (R233). -/
def execBm1216 (s : State) : Res State := makeupCode 13 1216 s

/-- `BM1280`, `0000001010010` (R96): make-up of 1280 (R233). -/
def execBm1280 (s : State) : Res State := makeupCode 13 1280 s

/-- `BM1344`, `0000001010011` (R96): make-up of 1344 (R233). -/
def execBm1344 (s : State) : Res State := makeupCode 13 1344 s

/-- `BM1408`, `0000001010100` (R96): make-up of 1408 (R233). -/
def execBm1408 (s : State) : Res State := makeupCode 13 1408 s

/-- `BM1472`, `0000001010101` (R96): make-up of 1472 (R233). -/
def execBm1472 (s : State) : Res State := makeupCode 13 1472 s

/-- `BM1536`, `0000001011010` (R96): make-up of 1536 (R233). -/
def execBm1536 (s : State) : Res State := makeupCode 13 1536 s

/-- `BM1600`, `0000001011011` (R96): make-up of 1600 (R233). -/
def execBm1600 (s : State) : Res State := makeupCode 13 1600 s

/-- `BM1664`, `0000001100100` (R96): make-up of 1664 (R233). -/
def execBm1664 (s : State) : Res State := makeupCode 13 1664 s

/-- `BM1728`, `0000001100101` (R96): make-up of 1728 (R233). -/
def execBm1728 (s : State) : Res State := makeupCode 13 1728 s


/-! ## Extended make-up codes, of either colour -/

/-- `XM1792`, `00000001000` (R97): make-up of 1792 (R234). -/
def execXm1792 (s : State) : Res State := makeupCode 11 1792 s

/-- `XM1856`, `00000001100` (R97): make-up of 1856 (R234). -/
def execXm1856 (s : State) : Res State := makeupCode 11 1856 s

/-- `XM1920`, `00000001101` (R97): make-up of 1920 (R234). -/
def execXm1920 (s : State) : Res State := makeupCode 11 1920 s

/-- `XM1984`, `000000010010` (R97): make-up of 1984 (R234). -/
def execXm1984 (s : State) : Res State := makeupCode 12 1984 s

/-- `XM2048`, `000000010011` (R97): make-up of 2048 (R234). -/
def execXm2048 (s : State) : Res State := makeupCode 12 2048 s

/-- `XM2112`, `000000010100` (R97): make-up of 2112 (R234). -/
def execXm2112 (s : State) : Res State := makeupCode 12 2112 s

/-- `XM2176`, `000000010101` (R97): make-up of 2176 (R234). -/
def execXm2176 (s : State) : Res State := makeupCode 12 2176 s

/-- `XM2240`, `000000010110` (R97): make-up of 2240 (R234). -/
def execXm2240 (s : State) : Res State := makeupCode 12 2240 s

/-- `XM2304`, `000000010111` (R97): make-up of 2304 (R234). -/
def execXm2304 (s : State) : Res State := makeupCode 12 2304 s

/-- `XM2368`, `000000011100` (R97): make-up of 2368 (R234). -/
def execXm2368 (s : State) : Res State := makeupCode 12 2368 s

/-- `XM2432`, `000000011101` (R97): make-up of 2432 (R234). -/
def execXm2432 (s : State) : Res State := makeupCode 12 2432 s

/-- `XM2496`, `000000011110` (R97): make-up of 2496 (R234). -/
def execXm2496 (s : State) : Res State := makeupCode 12 2496 s

/-- `XM2560`, `000000011111` (R97): make-up of 2560 (R234). -/
def execXm2560 (s : State) : Res State := makeupCode 12 2560 s

end Sys2Proof.Machine
end

