-- ==== Sys2Proof/Machine/ModeCodes.lean ====
section
/-! DEFINITION. The two-dimensional mode codes (R98, R99, R217 to R227). -/

namespace Sys2Proof.Machine

/-- `P`, `0001`: Pass (R217). -/
def execPass (s : State) : Res State := onRow s fun pg d => (d.matchedMode 4).pass pg

/-- `H`, `001`: Horizontal; two run code words follow (R218). -/
def execHoriz (s : State) : Res State := onRow s fun _ d => .next { d.matchedMode 3 with hpair := .first }

/-- `V0`, `1`: Vertical, d = 0 (R219). -/
def execV0 (s : State) : Res State := verticalCode 1 0 s

/-- `VR1`, `011`: Vertical, d = +1 (R220). -/
def execVr1 (s : State) : Res State := verticalCode 3 1 s

/-- `VR2`, `000011`: Vertical, d = +2 (R221). -/
def execVr2 (s : State) : Res State := verticalCode 6 2 s

/-- `VR3`, `0000011`: Vertical, d = +3 (R222). -/
def execVr3 (s : State) : Res State := verticalCode 7 3 s

/-- `VL1`, `010`: Vertical, d = -1 (R223). -/
def execVl1 (s : State) : Res State := verticalCode 3 (-1) s

/-- `VL2`, `000010`: Vertical, d = -2 (R224). -/
def execVl2 (s : State) : Res State := verticalCode 6 (-2) s

/-- `VL3`, `0000010`: Vertical, d = -3 (R225). -/
def execVl3 (s : State) : Res State := verticalCode 7 (-3) s

/-- `EXT2D`, `0000001`: consumed, without effect (R226). -/
def execExt2d (s : State) : Res State := onRow s fun _ d => .next ((d.matchedMode 7).log .ext)

/-- `NULL2D`, the peek `0000000` that begins no mode code: one bit dropped (R227). -/
def execNull2d (s : State) : Res State := onRow s fun _ d => .next (d.dropUnmatched .null)

end Sys2Proof.Machine
end

