-- ==== Sys2Proof/Machine/WhiteCodes.lean ====
section
/-! DEFINITION. The white terminating codes, `WT0` to `WT63` (R93, R230): the width of the code word and the run it closes. -/

namespace Sys2Proof.Machine

/-! ## White terminating codes -/

/-- `WT0`, `00110101` (R93): a run of 0 (R230). -/
def execWt0 (s : State) : Res State := terminatingCode 8 0 s

/-- `WT1`, `000111` (R93): a run of 1 (R230). -/
def execWt1 (s : State) : Res State := terminatingCode 6 1 s

/-- `WT2`, `0111` (R93): a run of 2 (R230). -/
def execWt2 (s : State) : Res State := terminatingCode 4 2 s

/-- `WT3`, `1000` (R93): a run of 3 (R230). -/
def execWt3 (s : State) : Res State := terminatingCode 4 3 s

/-- `WT4`, `1011` (R93): a run of 4 (R230). -/
def execWt4 (s : State) : Res State := terminatingCode 4 4 s

/-- `WT5`, `1100` (R93): a run of 5 (R230). -/
def execWt5 (s : State) : Res State := terminatingCode 4 5 s

/-- `WT6`, `1110` (R93): a run of 6 (R230). -/
def execWt6 (s : State) : Res State := terminatingCode 4 6 s

/-- `WT7`, `1111` (R93): a run of 7 (R230). -/
def execWt7 (s : State) : Res State := terminatingCode 4 7 s

/-- `WT8`, `10011` (R93): a run of 8 (R230). -/
def execWt8 (s : State) : Res State := terminatingCode 5 8 s

/-- `WT9`, `10100` (R93): a run of 9 (R230). -/
def execWt9 (s : State) : Res State := terminatingCode 5 9 s

/-- `WT10`, `00111` (R93): a run of 10 (R230). -/
def execWt10 (s : State) : Res State := terminatingCode 5 10 s

/-- `WT11`, `01000` (R93): a run of 11 (R230). -/
def execWt11 (s : State) : Res State := terminatingCode 5 11 s

/-- `WT12`, `001000` (R93): a run of 12 (R230). -/
def execWt12 (s : State) : Res State := terminatingCode 6 12 s

/-- `WT13`, `000011` (R93): a run of 13 (R230). -/
def execWt13 (s : State) : Res State := terminatingCode 6 13 s

/-- `WT14`, `110100` (R93): a run of 14 (R230). -/
def execWt14 (s : State) : Res State := terminatingCode 6 14 s

/-- `WT15`, `110101` (R93): a run of 15 (R230). -/
def execWt15 (s : State) : Res State := terminatingCode 6 15 s

/-- `WT16`, `101010` (R93): a run of 16 (R230). -/
def execWt16 (s : State) : Res State := terminatingCode 6 16 s

/-- `WT17`, `101011` (R93): a run of 17 (R230). -/
def execWt17 (s : State) : Res State := terminatingCode 6 17 s

/-- `WT18`, `0100111` (R93): a run of 18 (R230). -/
def execWt18 (s : State) : Res State := terminatingCode 7 18 s

/-- `WT19`, `0001100` (R93): a run of 19 (R230). -/
def execWt19 (s : State) : Res State := terminatingCode 7 19 s

/-- `WT20`, `0001000` (R93): a run of 20 (R230). -/
def execWt20 (s : State) : Res State := terminatingCode 7 20 s

/-- `WT21`, `0010111` (R93): a run of 21 (R230). -/
def execWt21 (s : State) : Res State := terminatingCode 7 21 s

/-- `WT22`, `0000011` (R93): a run of 22 (R230). -/
def execWt22 (s : State) : Res State := terminatingCode 7 22 s

/-- `WT23`, `0000100` (R93): a run of 23 (R230). -/
def execWt23 (s : State) : Res State := terminatingCode 7 23 s

/-- `WT24`, `0101000` (R93): a run of 24 (R230). -/
def execWt24 (s : State) : Res State := terminatingCode 7 24 s

/-- `WT25`, `0101011` (R93): a run of 25 (R230). -/
def execWt25 (s : State) : Res State := terminatingCode 7 25 s

/-- `WT26`, `0010011` (R93): a run of 26 (R230). -/
def execWt26 (s : State) : Res State := terminatingCode 7 26 s

/-- `WT27`, `0100100` (R93): a run of 27 (R230). -/
def execWt27 (s : State) : Res State := terminatingCode 7 27 s

/-- `WT28`, `0011000` (R93): a run of 28 (R230). -/
def execWt28 (s : State) : Res State := terminatingCode 7 28 s

/-- `WT29`, `00000010` (R93): a run of 29 (R230). -/
def execWt29 (s : State) : Res State := terminatingCode 8 29 s

/-- `WT30`, `00000011` (R93): a run of 30 (R230). -/
def execWt30 (s : State) : Res State := terminatingCode 8 30 s

/-- `WT31`, `00011010` (R93): a run of 31 (R230). -/
def execWt31 (s : State) : Res State := terminatingCode 8 31 s

/-- `WT32`, `00011011` (R93): a run of 32 (R230). -/
def execWt32 (s : State) : Res State := terminatingCode 8 32 s

/-- `WT33`, `00010010` (R93): a run of 33 (R230). -/
def execWt33 (s : State) : Res State := terminatingCode 8 33 s

/-- `WT34`, `00010011` (R93): a run of 34 (R230). -/
def execWt34 (s : State) : Res State := terminatingCode 8 34 s

/-- `WT35`, `00010100` (R93): a run of 35 (R230). -/
def execWt35 (s : State) : Res State := terminatingCode 8 35 s

/-- `WT36`, `00010101` (R93): a run of 36 (R230). -/
def execWt36 (s : State) : Res State := terminatingCode 8 36 s

/-- `WT37`, `00010110` (R93): a run of 37 (R230). -/
def execWt37 (s : State) : Res State := terminatingCode 8 37 s

/-- `WT38`, `00010111` (R93): a run of 38 (R230). -/
def execWt38 (s : State) : Res State := terminatingCode 8 38 s

/-- `WT39`, `00101000` (R93): a run of 39 (R230). -/
def execWt39 (s : State) : Res State := terminatingCode 8 39 s

/-- `WT40`, `00101001` (R93): a run of 40 (R230). -/
def execWt40 (s : State) : Res State := terminatingCode 8 40 s

/-- `WT41`, `00101010` (R93): a run of 41 (R230). -/
def execWt41 (s : State) : Res State := terminatingCode 8 41 s

/-- `WT42`, `00101011` (R93): a run of 42 (R230). -/
def execWt42 (s : State) : Res State := terminatingCode 8 42 s

/-- `WT43`, `00101100` (R93): a run of 43 (R230). -/
def execWt43 (s : State) : Res State := terminatingCode 8 43 s

/-- `WT44`, `00101101` (R93): a run of 44 (R230). -/
def execWt44 (s : State) : Res State := terminatingCode 8 44 s

/-- `WT45`, `00000100` (R93): a run of 45 (R230). -/
def execWt45 (s : State) : Res State := terminatingCode 8 45 s

/-- `WT46`, `00000101` (R93): a run of 46 (R230). -/
def execWt46 (s : State) : Res State := terminatingCode 8 46 s

/-- `WT47`, `00001010` (R93): a run of 47 (R230). -/
def execWt47 (s : State) : Res State := terminatingCode 8 47 s

/-- `WT48`, `00001011` (R93): a run of 48 (R230). -/
def execWt48 (s : State) : Res State := terminatingCode 8 48 s

/-- `WT49`, `01010010` (R93): a run of 49 (R230). -/
def execWt49 (s : State) : Res State := terminatingCode 8 49 s

/-- `WT50`, `01010011` (R93): a run of 50 (R230). -/
def execWt50 (s : State) : Res State := terminatingCode 8 50 s

/-- `WT51`, `01010100` (R93): a run of 51 (R230). -/
def execWt51 (s : State) : Res State := terminatingCode 8 51 s

/-- `WT52`, `01010101` (R93): a run of 52 (R230). -/
def execWt52 (s : State) : Res State := terminatingCode 8 52 s

/-- `WT53`, `00100100` (R93): a run of 53 (R230). -/
def execWt53 (s : State) : Res State := terminatingCode 8 53 s

/-- `WT54`, `00100101` (R93): a run of 54 (R230). -/
def execWt54 (s : State) : Res State := terminatingCode 8 54 s

/-- `WT55`, `01011000` (R93): a run of 55 (R230). -/
def execWt55 (s : State) : Res State := terminatingCode 8 55 s

/-- `WT56`, `01011001` (R93): a run of 56 (R230). -/
def execWt56 (s : State) : Res State := terminatingCode 8 56 s

/-- `WT57`, `01011010` (R93): a run of 57 (R230). -/
def execWt57 (s : State) : Res State := terminatingCode 8 57 s

/-- `WT58`, `01011011` (R93): a run of 58 (R230). -/
def execWt58 (s : State) : Res State := terminatingCode 8 58 s

/-- `WT59`, `01001010` (R93): a run of 59 (R230). -/
def execWt59 (s : State) : Res State := terminatingCode 8 59 s

/-- `WT60`, `01001011` (R93): a run of 60 (R230). -/
def execWt60 (s : State) : Res State := terminatingCode 8 60 s

/-- `WT61`, `00110010` (R93): a run of 61 (R230). -/
def execWt61 (s : State) : Res State := terminatingCode 8 61 s

/-- `WT62`, `00110011` (R93): a run of 62 (R230). -/
def execWt62 (s : State) : Res State := terminatingCode 8 62 s

/-- `WT63`, `00110100` (R93): a run of 63 (R230). -/
def execWt63 (s : State) : Res State := terminatingCode 8 63 s

end Sys2Proof.Machine
end

