-- ==== Sys2Proof/Machine/Decision.lean ====
section
/-! DEFINITION. The decision loop of the decoder (R200 to R206, R241): what the next decision is, one decision, the loop
that follows a received bit, and the end-of-input drain. -/

namespace Sys2Proof.Machine

/-- What `step()` decides to do (R204): a code word, or a bit that is none. -/
inductive Decision where
  | code (i : Instr)
  | skip
  | hunt
  | unmatched
deriving DecidableEq, Repr

/-- Is the page coded in `T4_2D`, so that an EOL carries a tag bit (R92)? -/
def Dec.tagged (d : Dec) : Bool := d.pcfg.mode == some .t42d

/-- The context in which the window is read when no EOL, skip or hunt comes first (R91, R204). -/
def Dec.context (d : Dec) : Context := if d.rowIs2d && d.hpair == .none then .mode2d else .run d.color

/-- The next decision: the tests of R204 in their order. -/
def Dec.decision (d : Dec) : Decision :=
  if isEol d.view then
    match decodeCode (.eol d.tagged) d.view with
    | .ok i => .code i
    | .error _ => .unmatched
  else if 0 < d.skip then .skip
  else if d.eolCount = -1 then .hunt
  else
    match decodeCode d.context d.view with
    | .ok i => .code i
    | .error _ => .unmatched

/-- A decision that is no code word: skip, hunt, or an unmatched 1D peek (R205, R206, R229). -/
def bitDecision (dn : Decision) (s : State) : Res State :=
  match dn with
  | .skip => onRow s fun _ d => .next d.skipBit
  | .hunt => onRow s fun _ d => .next d.huntBit
  | .unmatched => onRow s fun _ d => .next (d.dropUnmatched .bad1d)
  | .code _ => .next s

/-- `step()` (R204). -/
def decide1 (s : State) : Res State :=
  match s.dec.decision with
  | .code i => runCode i s
  | .skip => bitDecision .skip s
  | .hunt => bitDecision .hunt s
  | .unmatched => bitDecision .unmatched s

/-- Does the decision loop go on (R201)? -/
def Dec.ready (d : Dec) : Bool := decide (Config.winMin ≤ d.winCount) && !d.complete && !d.nomem

/-- `decision_loop()` (R201), at most `fuel` decisions (log 24). -/
def decisionLoop : Nat → State → Res State
  | 0, s => .next s
  | fuel + 1, s => if s.dec.ready then andThen (decide1 s) (decisionLoop fuel) else .next s

/-- `decode_bit(b)` (R200); `dec.page_bits` passing `2^32 - 1` faults (R333). A decision drops a bit or more, so as many
decisions as the window holds bits are enough. -/
def decodeBit (b : Bool) (s : State) : Res State :=
  if s.dec.complete || s.dec.nomem then .next s
  else if counterFits s.dec.pageBits then decisionLoop (s.dec.winCount + 1) (s.withDec (s.dec.append b))
  else .fault .counterLimit

/-- Bits in their order (R148). -/
def decodeBits : List Bool → State → Res State
  | [], s => .next s
  | b :: bs, s => andThen (decodeBit b s) (decodeBits bs)

/-! ## The end-of-input drain (R241) -/

/-- `need()` (R241): the window bits that the next decision consumes or rests on. -/
def Dec.need (d : Dec) : Nat :=
  if isEol d.view then (if d.tagged then 13 else 12)
  else if 0 < d.skip ∨ d.eolCount = -1 then 1
  else
    match d.context with
    | .mode2d =>
      match lookupRow modeRows d.view with
      | some r => if r.instr = .null2d then 1 else r.len
      | none => 1
    | .run color =>
      match lookupRow (runRows color) d.view with
      | some r => r.len
      | none => 1
    | .eol _ => 1

/-- Does the drain go on (R241)? -/
def Dec.drains (d : Dec) : Bool :=
  decide (0 < d.winCount) && !d.complete && !d.nomem && decide (d.need ≤ d.winCount)

/-- The drain (R241), at most `fuel` decisions (log 24). -/
def drainLoop : Nat → State → Res State
  | 0, s => .next s
  | fuel + 1, s => if s.dec.drains then andThen (decide1 s) (drainLoop fuel) else .next s

/-- `end_of_input_drain()` (R241). -/
def drain (s : State) : Res State := drainLoop s.dec.winCount s

/-- The partial row at end of input (R242). -/
def commitPartial (s : State) : Res State :=
  if !s.dec.complete && !s.dec.nomem && decide (0 < s.dec.rowLen) then onRow s Dec.commitRow else .next s

end Sys2Proof.Machine
end

