-- ==== Sys2Proof/Machine/RxCommands.lean ====
section
/-! DEFINITION. The host commands of the receive channel (R300 to R311). Each is one atomic transition of `State.dec`; the
encoder is never touched (R7, R86). -/

namespace Sys2Proof.Machine

/-! ## Lifecycle -/

/-- INIT's effect on the decoder (R300, and the INIT column of R353; log 13). The registers which that column leaves
unspecified keep their value: the model's choice (log 36). -/
def Dec.init (d : Dec) : Dec :=
  { d with life := .idle, cfg := .unset, pcfg := .unset, stats := .zero, img := [], imgCapRows := 0, rows := 0 }

/-- RX_INIT (R300). -/
def execRxInit (s : State) : Res State :=
  admitIf (s.dec.life == .uninit) (.notAdmitted s.dec.life) <|
    s.finishRx s.dec.init (.status statusOk)

/-- RELEASE's effect on the decoder (R301, R48, R81): the buffer and the RunArrays are freed; nothing changes in `UNINIT`
(log 12). -/
def Dec.release (d : Dec) : Dec :=
  if d.life = .uninit then d
  else
    { d with
      life := .uninit
      img := []
      imgCapRows := 0
      rows := 0
      refRuns := []
      curRuns := []
      nomem := false }

/-- RX_RELEASE (R301). -/
def execRxRelease (s : State) : Res State := s.finishRx s.dec.release (.status statusOk)

/-! ## Setters (R302 to R305) -/

/-- A setter's end: the staged configuration written, `OK` (R302). -/
def setRxCfg (s : State) (cfg : RxCfg) : Res State := s.finishRx { s.dec with cfg := cfg } (.status statusOk)

/-- RX_SET_MODE (R302). -/
def execRxSetMode (mode : BitVec 2) (s : State) : Res State :=
  admitIf (setterAdmitted s.dec.life) (.notAdmitted s.dec.life) <|
    match modeOfCode mode with
    | some m => setRxCfg s { s.dec.cfg with mode := some m }
    | none => .refused .reservedMode

/-- RX_SET_WIDTH (R303). -/
def execRxSetWidth (width : Word) (s : State) : Res State :=
  admitIf (setterAdmitted s.dec.life) (.notAdmitted s.dec.life) <|
    admitIf (widthAdmitted s.par width) .widthRange <|
      setRxCfg s { s.dec.cfg with width := some width }

/-- RX_SET_XRES (R304). -/
def execRxSetXres (code : Word) (s : State) : Res State :=
  admitIf (setterAdmitted s.dec.life) (.notAdmitted s.dec.life) <|
    setRxCfg s { s.dec.cfg with xres := some code }

/-- RX_SET_YRES (R305). -/
def execRxSetYres (code : Word) (s : State) : Res State :=
  admitIf (setterAdmitted s.dec.life) (.notAdmitted s.dec.life) <|
    setRxCfg s { s.dec.cfg with yres := some code }

/-! ## Pages -/

/-- The configuration RX_START_PAGE needs (R306, R23): mode and width. -/
def RxCfg.startable (c : RxCfg) : Bool := c.mode.isSome && c.width.isSome

/-- START_PAGE's effect on the decoder, the RunArrays granted (R306). -/
def Dec.startPage (d : Dec) : Dec :=
  let t6 := d.cfg.mode == some .t6
  Dec.rowReset
    { d with
      life := .inPage
      pcfg := d.cfg
      win := 0
      winCount := 0
      skip := 0
      eolCount := if t6 then 0 else -1
      complete := false
      rowIs2d := t6
      refRuns := [(d.cfg.width.map BitVec.toNat).getD 0]
      rows := 0
      nomem := false
      invalid := false
      bitsInRow := 0
      pageBits := 0
      page := .initial }

/-- RX_START_PAGE (R306). -/
def execRxStartPage (s : State) : Res State :=
  admitIf (s.dec.life == .idle) (.notAdmitted s.dec.life) <|
    admitIf s.dec.cfg.startable .unconfigured <|
      match s.dec.alloc.grow Config.rxAllocAnswer with
      | (true, a) => s.finishRx (Dec.startPage { s.dec with alloc := a }) (.status statusOk)
      | (false, a) => s.finishRx { s.dec with alloc := a } (.status statusNomem)

/-- The snapshot of RX_END_PAGE (R307, R355). -/
def Dec.snapshot (pg : RxPage) (d : Dec) : Res Stats :=
  andThen (statWord (d.stats.pages.toNat + 1)) fun pages =>
    andThen (statWord d.rows) fun length =>
      andThen (statWord d.page.badRows) fun badRows =>
        andThen (statWord d.page.longestBadRun) fun longest =>
          andThen (statWord ((d.pageBits + 7) / 8)) fun size =>
            .next
              { pages := pages
                width := BitVec.ofNat 32 pg.w
                length := length
                xres := d.pcfg.xres.getD 0
                yres := d.pcfg.yres.getD 0
                badRows := badRows
                longestBadRun := longest
                encoding := BitVec.ofNat 32 (codeOfMode pg.mode)
                sizeBytes := size }

/-- RX_END_PAGE after the drain and the partial commit (R307, R277, R274): fold, end marker, snapshot, status. -/
def closePage (pg : RxPage) (s : State) : Res State :=
  let d := { s.dec with page := s.dec.page.foldBadRun, sink := s.dec.sink ++ [⟨s.dec.userData, none, 0⟩] }
  andThen (d.snapshot pg) fun st => s.finishRx { d with stats := st, life := .idle } (.status (rxEndStatus d))

/-- RX_END_PAGE (R307). -/
def execRxEndPage (s : State) : Res State :=
  andThen (rxPage s) fun pg => andThen (drain s) fun s => andThen (commitPartial s) (closePage pg)

/-! ## PUT commands (R308 to R310) -/

/-- A PUT command: `dec.invalid` cleared, its bits decoded, its status (R243). -/
def putBits (bits : List Bool) (s : State) : Res State :=
  andThen (rxPage s) fun _ =>
    andThen (decodeBits bits (s.withDec { s.dec with invalid := false })) fun s =>
      .next (s.withResult (.status (putStatus s.dec)))

/-- RX_PUT_BIT (R308). -/
def execRxPutBit (bit : Bool) (s : State) : Res State := putBits [bit] s

/-- RX_PUT_BYTE (R309): bit 0 first (R148). -/
def execRxPutByte (byte : Byte) (s : State) : Res State := putBits (bitsOfByte byte) s

/-- RX_PUT_CHUNK (R310): the bytes in buffer order, each bit 0 first (R148). -/
def execRxPutChunk (len : Word) (buf : List Byte) (s : State) : Res State :=
  admitIf (s.dec.life == .inPage) (.notAdmitted s.dec.life) <|
    admitIf (decide (len.toNat ≤ buf.length)) .shortBuffer <|
      putBits ((buf.take len.toNat).flatMap bitsOfByte) s

/-- RX_GET_STATS (R311). -/
def execRxGetStats (s : State) : Res State :=
  admitIf (s.dec.life != .uninit) (.notAdmitted s.dec.life) <| s.finishRx s.dec (.stats s.dec.stats)

end Sys2Proof.Machine
end

