-- ==== Sys2Proof/Machine/LineEncoder.lean ====
section
/-! DEFINITION. The line encoder (`43_line_encoder.md`): the code words of a run and of a row, row framing, the row pull,
the page terminator, on-demand production. A row's code words are instructions; what is emitted is their bits. -/

namespace Sys2Proof.Machine

/-! ## Code words of runs (R160, R161) -/

/-- The terminating rows of a colour. -/
def termRows : Color → List CodeRow
  | .white => whiteTermRows
  | .black => blackTermRows

/-- The make-up rows of a colour up to 1728. -/
def makeupRows : Color → List CodeRow
  | .white => whiteMakeupRows
  | .black => blackMakeupRows

/-- The code word at a table index. Every index used below lies in its table. -/
def instrAt (rows : List CodeRow) (i : Nat) : List Instr := ((rows[i]?).map CodeRow.instr).toList

/-- `term(color, n)` (R160), `n` below 64. -/
def termCode (color : Color) (n : Nat) : List Instr := instrAt (termRows color) n

/-- `makeup(color, m)` (R160, R104), `m` a multiple of 64 up to 2560. -/
def makeupOf (color : Color) (m : Nat) : List Instr :=
  if m ≤ 1728 then instrAt (makeupRows color) (m / 64 - 1) else instrAt extMakeupRows ((m - 1792) / 64)

/-- The loop of `emit_run` (R160), at most `fuel` times round (log 24). -/
def runCodesLoop : Nat → Color → Nat → List Instr
  | 0, _, _ => []
  | fuel + 1, color, n =>
    if Config.makeupStep ≤ n then
      let m := min Config.makeupMax (Config.makeupStep * (n / Config.makeupStep))
      makeupOf color m ++ runCodesLoop fuel color (n - m)
    else termCode color n

/-- `emit_run(color, n)` (R160): its code words. -/
def runCodes (color : Color) (n : Nat) : List Instr := runCodesLoop (n / Config.makeupMax + 2) color n

/-- `encode_1d(R)` (R162): its code words, from the colour of the first run. -/
def codes1dFrom : Color → List Nat → List Instr
  | _, [] => []
  | color, r :: rs => runCodes color r ++ codes1dFrom color.flip rs

/-- `encode_1d(R)` (R162): position 0 is white. -/
def codes1d (runs : List Nat) : List Instr := codes1dFrom .white runs

/-! ## Code words of a two-dimensional row (R163 to R167) -/

/-- `V(d)` for an offset `d = a1 - b1` of at most 3 either way (R105, R165). -/
def verticalOf (off : Int) : Instr :=
  if off = 0 then .v0
  else if off = 1 then .vr1
  else if off = 2 then .vr2
  else if off = 3 then .vr3
  else if off = -1 then .vl1
  else if off = -2 then .vl2
  else .vl3

/-- The loop of `encode_2d` from a position and a colour (R163), at most `fuel` modes (log 24). The tests are made in the
order Pass, Vertical, Horizontal (R167). -/
def codes2dLoop : Nat → List Color → List Color → Int → Color → List Instr
  | 0, _, _, _, _ => []
  | fuel + 1, cur, ref, a0, color =>
    if a0 < cur.length then
      let a1 := nextChange cur a0
      let b1 := b1Of ref a0 color
      let b2 := b2Of ref a0 color
      let off : Int := (a1 : Int) - b1
      if b2 < a1 then .pass :: codes2dLoop fuel cur ref b2 color
      else if off.natAbs ≤ 3 then verticalOf off :: codes2dLoop fuel cur ref a1 color.flip
      else
        let a2 := nextChange cur a1
        .horiz :: runCodes color (a1 - (max a0 0).toNat) ++ runCodes color.flip (a2 - a1) ++
          codes2dLoop fuel cur ref a2 color
    else []

/-- `encode_2d(cur, ref)` (R163): its code words. -/
def codes2d (cur ref : List Color) : List Instr := codes2dLoop (cur.length + 1) cur ref (-1) .white

/-! ## Rows (R168 to R180) -/

/-- The K countdown at the start of a `T4_2D` row (R175): is the row 2D, and the countdown after it. -/
def countdown (k rowsTo1d : Nat) : Bool × Nat := if rowsTo1d = 0 then (false, k - 1) else (true, rowsTo1d - 1)

/-- Does a row of a mode, at a countdown, use the two-dimensional code (R168, R175)? -/
def rowIs2d (mode : Mode) (rowsTo1d : Nat) : Bool :=
  match mode with
  | .t41d => false
  | .t42d => rowsTo1d != 0
  | .t6 => true

/-- The countdown after a row (R175); it is unused outside `T4_2D`. -/
def countdownAfter (pg : TxPage) (rowsTo1d : Nat) : Nat :=
  match pg.mode with
  | .t42d => (countdown pg.k rowsTo1d).2
  | .t41d => rowsTo1d
  | .t6 => rowsTo1d

/-- What is emitted before a row's codes (R169 to R171, R174): EOL, and the tag bit in `T4_2D`, 1 before a 1D row. -/
def rowFrame (mode : Mode) (is2d : Bool) : List (List Bool) :=
  match mode with
  | .t41d => [codeBits .eol]
  | .t42d => [codeBits .eol, [!is2d]]
  | .t6 => []

/-- The code words of a row (R168, R178): `cur` its pixels, `ref` the reference row's pixels. -/
def rowCodes (is2d : Bool) (cur ref : List Color) : List Instr :=
  if is2d then codes2d cur ref else codes1d (runsOf cur)

/-- The `emit`s of a fill of `n` zeros: an `emit` takes at most 13 bits, so a longer fill is several (R141). That each but
the last takes 13 is the model's choice (log 38). -/
def fillPieces (n : Nat) : List (List Bool) := List.replicate (n / 13) (zeros 13) ++ [zeros (n % 13)]

/-- FILL (R173), not in `T6` (R174), in `emit`s of at most 13 bits (R141, log 38). -/
def Enc.fill (pg : TxPage) (e : Enc) : Enc :=
  if pg.mode ≠ .t6 ∧ e.rowBits < pg.minRowBits then e.emitAll pg.outGrow (fillPieces (pg.minRowBits - e.rowBits)) else e

/-- `encode_row(buf)` (R178), with its statistics (R180) and the reference update (R179), which empties `cur_runs` for the next
row (R84); `enc.rows` passing `2^32 - 1` faults (R333). -/
def Enc.encodeRow (pg : TxPage) (buf : List Byte) (e : Enc) : Res Enc :=
  let px := unpack buf pg.w
  let is2d := rowIs2d pg.mode e.rowsTo1d
  let words := rowFrame pg.mode is2d ++ (rowCodes is2d px (expand e.refRuns pg.w)).map codeBits
  let e := { e with
    curRow := buf
    curRuns := runLengthsOfRow buf pg.w
    rowBits := 0
    rowsTo1d := countdownAfter pg e.rowsTo1d }
  let e := (e.emitAll pg.outGrow words).fill pg
  if counterFits e.rows then
    .next { e with page := e.page.countBits e.rowBits, refRuns := e.curRuns, curRuns := [], rows := e.rows + 1 }
  else .fault .counterLimit

/-! ## The page terminator (R181 to R184) -/

/-- RTC of six EOLs, or of six EOL1s in `T4_2D` (R181); EOFB of two EOLs in `T6` (R182). -/
def terminatorCodes : Mode → List Instr
  | .t41d => List.replicate 6 .eol
  | .t42d => List.replicate 6 .eol1
  | .t6 => List.replicate 2 .eol

/-- `terminate_page()` (R181, R182), with the final padding (R183). -/
def Enc.terminatePage (pg : TxPage) (e : Enc) : Enc :=
  { (e.emitAll pg.outGrow ((terminatorCodes pg.mode).map codeBits)).pad pg.outGrow with termDone := true }

/-! ## The row source (R177, R313) -/

/-- The row source's answer to the n-th call of a page where no script says so: a free value that keeps the host's duty
(log 9). -/
def freeRowAnswer (bpr page n : Nat) : RowAnswer :=
  match Config.rowKind page n with
  | .row => ⟨bpr, (List.range bpr).map (Config.rowByte page n)⟩
  | .endOfPage => ⟨0, []⟩
  | .readError => ⟨-1, []⟩

/-- One call of the row source: its answer, and the oracle after it. -/
def RowSource.answer (bpr : Nat) (src : RowSource) : RowAnswer × RowSource :=
  match src.script with
  | a :: rest => (a, { src with script := rest, calls := src.calls + 1 })
  | [] => (freeRowAnswer bpr src.page src.calls, { src with calls := src.calls + 1 })

/-- The row source at the start of a page: the page's own sequence, none of its answers given (R313, log 37). -/
def RowSource.nextPage (src : RowSource) : RowSource := ⟨src.later.headD [], 0, src.later.tail, src.page + 1⟩

/-- The encoder after a call `row_read(user_data, buf, BYTES_PER_ROW)`: the oracle and the record of the call. -/
def Enc.afterRead (bpr : Nat) (e : Enc) : Enc :=
  { e with source := (e.source.answer bpr).2, reads := e.reads ++ [⟨e.userData, bpr⟩] }

/-- What one pull does with an answer of the row source (R177, R184, R185, R186). -/
def Enc.takeAnswer (pg : TxPage) (ans : RowAnswer) (e : Enc) : Res Enc :=
  if ans.count = 0 then .next ({ e with srcDone := true }.terminatePage pg)
  else if ans.count < 0 then .next ({ e with srcDone := true, rowReadError := true }.terminatePage pg)
  else if ans.count = bytesPerRow pg.w ∧ ans.bytes.length = bytesPerRow pg.w then
    andThen (e.encodeRow pg ans.bytes) fun e => .next (if e.nomem then { e with termDone := true } else e)
  else .refused (.shortRow ans.count)

/-- `encode_next_row()` (R177). -/
def Enc.encodeNextRow (pg : TxPage) (e : Enc) : Res Enc :=
  (e.afterRead (bytesPerRow pg.w)).takeAnswer pg (e.source.answer (bytesPerRow pg.w)).1

/-! ## On-demand production (R187) -/

/-- The loop of `ensure(k)`, at most `fuel` pulls (log 24). -/
def Enc.ensureLoop (pg : TxPage) (k : Nat) : Nat → Enc → Res Enc
  | 0, e => .next e
  | fuel + 1, e =>
    if e.emitted ≤ k && !e.termDone then andThen (e.encodeNextRow pg) (Enc.ensureLoop pg k fuel) else .next e

/-- `ensure(k)` (R187). Each pull emits a bit or ends the page (R315), so `k + 1 - E` pulls are enough. -/
def Enc.ensure (pg : TxPage) (k : Nat) (e : Enc) : Res Enc := Enc.ensureLoop pg k (k + 1 - e.emitted) e

/-! ## Delivery (R291 to R293) -/

/-- One byte at the cursor, or none when the page has ended (R292, R293). -/
def Enc.nextByte (pg : TxPage) (e : Enc) : Res (Option Byte × Enc) :=
  andThen (e.ensure pg (e.outPos + 7)) fun e =>
    if e.emitted ≤ e.outPos then .next (none, e)
    else
      andThen (e.streamBits e.outPos 8) fun bs =>
        .next (some (byteOfBits bs), { e with outPos := e.outPos + 8 })

/-- The loop of GET_CHUNK (R293): at most `n` bytes, and the encoder after them. -/
def Enc.nextBytes (pg : TxPage) : Nat → Enc → Res (List Byte × Enc)
  | 0, e => .next ([], e)
  | n + 1, e =>
    andThen (e.nextByte pg) fun r =>
      match r with
      | (none, e) => .next ([], e)
      | (some v, e) => andThen (Enc.nextBytes pg n e) fun r => .next (v :: r.1, r.2)

end Sys2Proof.Machine
end

