-- ==== Sys2Proof/Machine/TxCommands.lean ====
section
/-! DEFINITION. The host commands of the transmit channel (R280 to R295). Each is one atomic transition of `State.enc`; the
decoder is never touched (R7, R86). -/

namespace Sys2Proof.Machine

/-! ## Lifecycle -/

/-- INIT's effect on the encoder (R280, and the INIT column of R352; log 13). The registers which that column leaves
unspecified keep their value: the model's choice (log 36). -/
def Enc.init (e : Enc) : Enc :=
  { e with
    life := .idle
    cfg := .initial
    pcfg := .unset
    k := none
    refRuns := []
    rowsTo1d := 0
    out := []
    outBytes := 0
    outCap := 0
    outPos := 0
    srcDone := false
    termDone := false
    rowReadError := false
    nomem := false
    stats := .zero }

/-- TX_INIT (R280). -/
def execTxInit (s : State) : Res State :=
  admitIf (s.enc.life == .uninit) (.notAdmitted s.enc.life) <|
    s.finishTx s.enc.init (.status statusOk)

/-- RELEASE's effect on the encoder (R281, R82, R324): the buffer and the RunArrays are freed; nothing changes in `UNINIT`
(log 12). -/
def Enc.release (e : Enc) : Enc :=
  if e.life = .uninit then e
  else
    { e with
      life := .uninit
      out := []
      outBytes := 0
      outCap := 0
      refRuns := []
      curRuns := []
      nomem := false }

/-- TX_RELEASE (R281). -/
def execTxRelease (s : State) : Res State := s.finishTx s.enc.release (.status statusOk)

/-! ## Setters (R282 to R286) -/

/-- A setter's end: the staged configuration written, `OK` (R282). -/
def setTxCfg (s : State) (cfg : TxCfg) : Res State := s.finishTx { s.enc with cfg := cfg } (.status statusOk)

/-- TX_SET_MODE (R282). -/
def execTxSetMode (mode : BitVec 2) (s : State) : Res State :=
  admitIf (setterAdmitted s.enc.life) (.notAdmitted s.enc.life) <|
    match modeOfCode mode with
    | some m => setTxCfg s { s.enc.cfg with mode := some m }
    | none => .refused .reservedMode

/-- TX_SET_WIDTH (R283). -/
def execTxSetWidth (width : Word) (s : State) : Res State :=
  admitIf (setterAdmitted s.enc.life) (.notAdmitted s.enc.life) <|
    admitIf (widthAdmitted s.par width) .widthRange <|
      setTxCfg s { s.enc.cfg with width := some width }

/-- TX_SET_XRES (R284). -/
def execTxSetXres (code : Word) (s : State) : Res State :=
  admitIf (setterAdmitted s.enc.life) (.notAdmitted s.enc.life) <|
    setTxCfg s { s.enc.cfg with xres := some code }

/-- TX_SET_YRES (R285). -/
def execTxSetYres (code : Word) (s : State) : Res State :=
  admitIf (setterAdmitted s.enc.life) (.notAdmitted s.enc.life) <|
    setTxCfg s { s.enc.cfg with yres := some code }

/-- TX_SET_MIN_ROW_BITS (R286). -/
def execTxSetMinRowBits (bits : Word) (s : State) : Res State :=
  admitIf (setterAdmitted s.enc.life) (.notAdmitted s.enc.life) <|
    setTxCfg s { s.enc.cfg with minRowBits := some bits }

/-! ## Pages -/

/-- The configuration TX_START_PAGE needs (R287, R23): mode and width, and yres in `T4_2D`. -/
def TxCfg.startable (c : TxCfg) : Bool :=
  c.mode.isSome && c.width.isSome && (c.mode != some .t42d || c.yres.isSome)

/-- `k` after TX_START_PAGE (R25, R287): `K_TABLE(yres)` in `T4_2D`, kept in the other modes. -/
def kAfterStart (par : Params) (cfg : TxCfg) (k : Option Nat) : Option Nat :=
  match cfg.mode, cfg.yres with
  | some .t42d, some y => some (kOf par y)
  | _, _ => k

/-- START_PAGE's effect on the encoder, the RunArrays granted (R287): the page reads a sequence of row-source answers of its
own (R313). That `cur_row`, `cur_runs` and, outside `T4_2D`, `k` keep their value is the model's choice (log 32, log 35). -/
def Enc.startPage (par : Params) (e : Enc) : Enc :=
  { e with
    life := .inPage
    pcfg := e.cfg
    k := kAfterStart par e.cfg e.k
    refRuns := [(e.cfg.width.map BitVec.toNat).getD 0]
    rowsTo1d := 0
    acc := 0
    accBits := 0
    outBytes := 0
    rowBits := 0
    srcDone := false
    termDone := false
    rowReadError := false
    nomem := false
    outPos := 0
    rows := 0
    page := .initial
    source := e.source.nextPage }

/-- TX_START_PAGE (R287). -/
def execTxStartPage (s : State) : Res State :=
  admitIf (s.enc.life == .idle) (.notAdmitted s.enc.life) <|
    admitIf s.enc.cfg.startable .unconfigured <|
      match s.enc.alloc.grow Config.txAllocAnswer with
      | (true, a) => s.finishTx (Enc.startPage s.par { s.enc with alloc := a }) (.status statusOk)
      | (false, a) => s.finishTx { s.enc with alloc := a } (.status statusNomem)

/-- The snapshot of TX_END_PAGE (R288, R188, R355). -/
def Enc.snapshot (pg : TxPage) (e : Enc) : Res Stats :=
  andThen (statWord (e.stats.pages.toNat + 1)) fun pages =>
    andThen (statWord e.rows) fun length =>
      andThen (statWord ((e.emitted + 7) / 8)) fun size =>
        .next
          { pages := pages
            width := BitVec.ofNat 32 pg.w
            length := length
            xres := e.pcfg.xres.getD 0
            yres := e.pcfg.yres.getD 0
            badRows := 0
            longestBadRun := 0
            encoding := BitVec.ofNat 32 (codeOfMode pg.mode)
            sizeBytes := size }

/-- TX_END_PAGE (R288). -/
def execTxEndPage (s : State) : Res State :=
  andThen (txPage s) fun pg =>
    andThen (s.enc.snapshot pg) fun st =>
      s.finishTx { s.enc with stats := st, life := .idle } (.status (txEndStatus s.enc))

/-- TX_RESTART_PAGE (R289). -/
def execTxRestartPage (s : State) : Res State :=
  admitIf (s.enc.life == .inPage) (.notAdmitted s.enc.life) <|
    s.finishTx { s.enc with outPos := 0 } (.status statusOk)

/-- The format that TX_NEXT_PAGE_DIFFERENT compares (R290): mode, width, xres, yres. -/
def TxCfg.format (c : TxCfg) : Option Mode × Option Word × Option Word × Option Word :=
  (c.mode, c.width, c.xres, c.yres)

/-- The answer of TX_NEXT_PAGE_DIFFERENT (R290). -/
def Enc.nextPageDifferent (e : Enc) : Bool := e.pcfg == .unset || e.cfg.format != e.pcfg.format

/-- TX_NEXT_PAGE_DIFFERENT (R290). -/
def execTxNextPageDifferent (s : State) : Res State :=
  admitIf (s.enc.life != .uninit) (.notAdmitted s.enc.life) <|
    s.finishTx s.enc (.flag (BitVec.ofBool s.enc.nextPageDifferent))

/-! ## Delivery (R291 to R295) -/

/-- TX_GET_BIT (R291). -/
def execTxGetBit (s : State) : Res State :=
  andThen (txPage s) fun pg =>
    andThen (s.enc.ensure pg s.enc.outPos) fun e =>
      if e.emitted ≤ e.outPos then s.finishTx e (.bit (bitResEnd (txErr e)))
      else
        andThen (e.streamBit e.outPos) fun b =>
          andThen (Enc.ensure pg (e.outPos + 1) { e with outPos := e.outPos + 1 }) fun e =>
            s.finishTx e (.bit (bitRes b (decide (e.emitted ≤ e.outPos))))

/-- TX_GET_BYTE (R292). -/
def execTxGetByte (s : State) : Res State :=
  andThen (txPage s) fun pg =>
    admitIf (s.enc.outPos % 8 == 0) .unaligned <|
      andThen (s.enc.nextByte pg) fun r =>
        match r with
        | (none, e) => s.finishTx e (.byte (byteResEnd (txErr e)))
        | (some v, e) =>
          andThen (e.ensure pg e.outPos) fun e => s.finishTx e (.byte (byteRes v (decide (e.emitted ≤ e.outPos))))

/-- TX_GET_CHUNK (R293). -/
def execTxGetChunk (maxLen : Word) (buf : List Byte) (s : State) : Res State :=
  andThen (txPage s) fun pg =>
    admitIf (s.enc.outPos % 8 == 0) .unaligned <|
      admitIf (decide (maxLen.toNat < 2 ^ 31)) .chunkRange <|
        admitIf (decide (maxLen.toNat ≤ buf.length)) .shortBuffer <|
          andThen (s.enc.nextBytes pg maxLen.toNat) fun r =>
            s.finishTx r.2
              (.chunk (chunkRes r.1.length (decide (r.1.length < maxLen.toNat) && txErr r.2))
                (r.1 ++ buf.drop r.1.length))

/-- TX_GET_STATS (R294). -/
def execTxGetStats (s : State) : Res State :=
  admitIf (s.enc.life != .uninit) (.notAdmitted s.enc.life) <| s.finishTx s.enc (.stats s.enc.stats)

end Sys2Proof.Machine
end

