-- ==== Sys2Proof/Machine/Fetch.lean ====
section
/-! DEFINITION. What the machine does next. Between commands a decoder never holds 13 window bits of an open page: the
command that appended the last of them ran the decision (R201). A state that does hold them stands inside the decision
loop, so the decision comes first (log 2); otherwise the oldest command of the host is next (R85, log 1). -/

namespace Sys2Proof.Machine

/-- What the next step does. -/
inductive Work where
  /-- No command and no decision: the block is idle and holds its state (R342). -/
  | idle
  /-- A decision of the decoder is due (R201). -/
  | decision (dn : Decision)
  /-- The oldest command, decoded, and the queue after it. -/
  | command (i : Instr) (rest : List Command)
  /-- The oldest command has a reserved opcode (R110). -/
  | reserved (op : Byte)
deriving DecidableEq, Repr

/-- Is a decision of the decoder due? -/
def decisionDue (s : State) : Bool := s.dec.life == .inPage && s.dec.ready

/-- The work that a host command is. -/
def commandWork (c : Command) (rest : List Command) : Work :=
  match decodeCommand c with
  | .ok i => .command i rest
  | .error _ => .reserved c.op

/-- The next step's work. -/
def nextWork (s : State) : Work :=
  if decisionDue s then .decision s.dec.decision
  else
    match s.host.queue with
    | [] => .idle
    | c :: rest => commandWork c rest

/-! ## Placing an instruction where the next step fetches it -/

/-- A decoder in the page and the context that a code word is read in: the page as RX_START_PAGE opens it for a mode and a
width, and the row at the place where the context holds (R91, log 5). -/
def Dec.opened (mode : Mode) (d : Dec) : Dec :=
  Dec.startPage { d with cfg := { d.cfg with mode := some mode, width := some (d.cfg.width.getD 16) } }

/-- The decoder placed in a context of R91. -/
def Dec.inContext (c : Context) (d : Dec) : Dec :=
  match c with
  | .eol false => { d.opened .t41d with eolCount := 0 }
  | .eol true => { d.opened .t42d with eolCount := 0 }
  | .mode2d => { d.opened .t42d with eolCount := 0, rowIs2d := true }
  | .run color => { d.opened .t41d with eolCount := 0, color := color }

/-- The decoder with 13 window bits. -/
def Dec.holding (w : Nat) (d : Dec) : Dec := { d with win := BitVec.ofNat 13 w, winCount := 13 }

/-- A state whose next step runs a table word as a host command. -/
def State.withCommand (s : State) (c : Command) : State :=
  (s.withDec (if decisionDue s then { s.dec with winCount := 0 } else s.dec)).withQueue (c :: s.host.queue)

/-- A state whose next step runs the instruction of a table word: a host command goes to the head of the queue, a code word
into the window of a page opened in its context. A word that is neither is queued as the opcode it is. -/
def placeWord (s : State) (nbits w : Nat) : State :=
  match (tableCommand nbits w).map decodeCommand, tableContext nbits w with
  | some (.ok _), _ => s.withCommand ⟨BitVec.ofNat 8 w, BitVec.ofNat 32 (w / 2 ^ 8), []⟩
  | _, some c => s.withDec ((s.dec.inContext c).holding w)
  | _, none => s.withCommand ⟨BitVec.ofNat 8 w, 0, []⟩

end Sys2Proof.Machine
end

