-- ==== Sys2Proof/Machine/Step.lean ====
section
/-! DEFINITION. One step of the machine: one host command (R8), or the decision that is due. -/

namespace Sys2Proof.Machine

/-- One step. A command leaves the queue before it runs. -/
def step (s : State) : Host.Outcome State Fault Refusal :=
  match nextWork s with
  | .idle => .next s
  | .decision (.code i) => exec i s
  | .decision .skip => bitDecision .skip s
  | .decision .hunt => bitDecision .hunt s
  | .decision .unmatched => bitDecision .unmatched s
  | .command i rest => exec i (s.withQueue rest)
  | .reserved op => .refused (.reservedOpcode op)

/-- The state with a table word's instruction where the next step fetches it (log 5). -/
def State.withFetchWord (s : State) (nbits w : Nat) : State := placeWord s nbits w

end Sys2Proof.Machine
end

