-- ==== Sys2Proof/Safety.lean ====
section
/-! DEFINITION. What counts as a sound state, in the terms the statements use: the admissible parameters (R9), the facts of
each channel that every step keeps, the commands each lifecycle state admits (R312), and runs of several instructions. -/

namespace Sys2Proof.Machine

/-! ## Parameters -/

/-- The parameter values R9, R25 and R216 admit. -/
structure ParamsOk (p : Params) : Prop where
  wMax : 2700 ≤ p.wMax
  runMargin : 4 ≤ p.runMargin
  imgGrow : 1 ≤ p.imgGrowRows
  outGrow : 1 ≤ p.outGrowBytes
  kDefault : 1 ≤ p.kDefault
  kTable : ∀ x ∈ p.kTable, 1 ≤ x.2

/-- A width register holds nothing, or a width SET_WIDTH admits (R23). -/
def WidthOk (p : Params) (w : Option Word) : Prop := ∀ x, w = some x → 1 ≤ x.toNat ∧ x.toNat ≤ p.wMax

/-! ## The encoder -/

/-- What holds of the encoder after every step. -/
structure EncInv (p : Params) (e : Enc) : Prop where
  /-- `OUT` keeps its form (R70). -/
  outWf : e.out.wf = true
  /-- Every stored byte is there (R72). -/
  outListed : ∀ i < e.outBytes, (readByte e.out i).isSome
  /-- `OUT` never holds more than its capacity (R82). -/
  outCap : e.outBytes ≤ e.outCap
  /-- At most 7 bits wait between emissions (R140). -/
  accBits : e.accBits ≤ 7
  /-- The accumulator holds nothing above them. -/
  accClean : e.acc.toNat < 2 ^ e.accBits
  cfgWidth : WidthOk p e.cfg.width
  pageWidth : WidthOk p e.pcfg.width
  cfgMinRowBits : e.cfg.minRowBits.isSome
  /-- A page in progress has its configuration (R287). -/
  pageCfg : e.life = .inPage → e.pcfg.mode.isSome ∧ e.pcfg.width.isSome ∧ e.pcfg.minRowBits.isSome
  /-- A `T4_2D` page has its K, and its countdown stays below it (R25, R175). -/
  pageK : e.life = .inPage → e.pcfg.mode = some .t42d → ∃ k, e.k = some k ∧ e.rowsTo1d < k
  /-- The reference row is `W` pixels long (R26, R179). -/
  pageRef : e.life = .inPage → ∀ w, e.pcfg.width = some w → e.refRuns.sum = w.toNat
  /-- A terminated page is a whole number of bytes (R183, R186). -/
  doneWhole : e.termDone = true → e.accBits = 0
  /-- A page that ran out of memory is over (R186). -/
  nomemDone : e.nomem = true → e.termDone = true
  /-- A page whose source has ended is over (R177). -/
  sourceDone : e.srcDone = true → e.termDone = true
  /-- A read error ends the source (R185). -/
  errorDone : e.rowReadError = true → e.srcDone = true
  /-- `enc.rows` fits its word (R333). -/
  rowsFit : e.rows < Config.wordLimit

/-! ## The decoder -/

/-- What holds of the decoder after every step. -/
structure DecInv (p : Params) (d : Dec) : Prop where
  /-- `IMG` keeps its form (R70). -/
  imgWf : d.img.wf = true
  cfgWidth : WidthOk p d.cfg.width
  pageWidth : WidthOk p d.pcfg.width
  /-- A page in progress has its configuration (R306). -/
  pageCfg : d.life = .inPage → d.pcfg.mode.isSome ∧ d.pcfg.width.isSome
  /-- The committed rows never exceed the capacity (R71, R81). -/
  rowsCap : d.rows ≤ d.imgCapRows
  /-- Every byte of a committed row is there (R71, R276). -/
  imgListed : ∀ w, d.pcfg.width = some w → ∀ i < d.rows * bytesPerRow w.toNat, (readByte d.img i).isSome
  /-- The reference row is `W` pixels long (R260). -/
  pageRef : d.life = .inPage → ∀ w, d.pcfg.width = some w → d.refRuns.sum = w.toNat
  /-- The window holds at most 13 bits (R40). -/
  winCount : d.winCount ≤ 13
  /-- Window bits that are not valid are 0 (R144). -/
  winClean : d.win.toNat < 2 ^ d.winCount
  /-- R41. -/
  skip : d.skip ≤ 12
  /-- R42. -/
  eolCount : -1 ≤ d.eolCount
  /-- R45. -/
  a0 : -1 ≤ d.a0
  /-- The row's total stays below the bound (R12). -/
  rowTotal : d.rowLen < Config.runLimit
  /-- Two RunArray entries stay free for the patch (R216). -/
  runsLen : d.life = .inPage → ∀ w, d.pcfg.width = some w → d.curRuns.length + 2 ≤ w.toNat + p.runMargin
  /-- `row_is_2d` stays 0 in `T4_1D` (R44). -/
  t41dRow : d.life = .inPage → d.pcfg.mode = some .t41d → d.rowIs2d = false
  /-- `row_is_2d` stays 1 in `T6`, and a `T6` page never hunts (R44, R42). -/
  t6Row : d.life = .inPage → d.pcfg.mode = some .t6 → d.rowIs2d = true ∧ 0 ≤ d.eolCount
  /-- A Horizontal pair stands in a 2D row, unless the page ran out of memory (R218). -/
  pair : d.life = .inPage → d.hpair ≠ .none → d.rowIs2d = true ∨ d.nomem = true
  /-- A complete page has seen its end pattern (R210). -/
  completeEnd : d.life = .inPage → d.complete = true → ∀ m, d.pcfg.mode = some m → eolThreshold m ≤ d.eolCount
  /-- The bad-row streaks are bad rows, and bad rows are rows (R271). -/
  badRows : d.life = .inPage → d.page.longestBadRun + d.page.curBadRun ≤ d.page.badRows ∧ d.page.badRows ≤ d.rows
  /-- `dec.rows` and `dec.page_bits` fit their words (R333). -/
  rowsFit : d.rows < Config.wordLimit
  pageBitsFit : d.pageBits < Config.wordLimit

/-- A sound state of the machine. -/
structure Inv (s : State) : Prop where
  par : ParamsOk s.par
  enc : EncInv s.par s.enc
  dec : DecInv s.par s.dec

/-! ## Admission (R312) -/

/-- Is an instruction a command of the transmit channel (R107)? -/
def isTx : Instr → Bool
  | .txInit | .txRelease | .txSetMode _ | .txSetWidth _ | .txSetXres _ | .txSetYres _ | .txSetMinRowBits _
  | .txStartPage | .txEndPage | .txRestartPage | .txNextPageDifferent | .txGetBit | .txGetByte | .txGetChunk _ _
  | .txGetStats => true
  | _ => false

/-- The lifecycle states that admit a command, by the table of R312; a code word is read in a page only (R200). -/
def admits (i : Instr) (life : Life) : Bool :=
  match i with
  | .txInit | .rxInit => life == .uninit
  | .txRelease | .rxRelease => true
  | .txSetMode _ | .txSetWidth _ | .txSetXres _ | .txSetYres _ | .txSetMinRowBits _
  | .rxSetMode _ | .rxSetWidth _ | .rxSetXres _ | .rxSetYres _ => life != .uninit
  | .txStartPage | .rxStartPage => life == .idle
  | .txNextPageDifferent | .txGetStats | .rxGetStats => life != .uninit
  | _ => life == .inPage

/-- The lifecycle register that admits an instruction. -/
def lifeFor (i : Instr) (s : State) : Life := if isTx i then s.enc.life else s.dec.life

/-! ## Pages in progress -/

/-- The decoder is in a page of a mode and a width. -/
abbrev InRxPage (s : State) (m : Mode) (w : Word) : Prop :=
  s.dec.life = .inPage ∧ s.dec.pcfg.mode = some m ∧ s.dec.pcfg.width = some w

/-- The encoder is in a page of a mode, a width and a minimum row, with its K where the mode reads it. -/
abbrev InTxPage (s : State) (m : Mode) (w minRow : Word) : Prop :=
  s.enc.life = .inPage ∧ s.enc.pcfg.mode = some m ∧ s.enc.pcfg.width = some w ∧
    s.enc.pcfg.minRowBits = some minRow ∧ (m = .t42d → s.enc.k.isSome)

/-- What the decoder's page machinery reads in such a page. -/
def rxPageOf (s : State) (m : Mode) (w : Word) : RxPage :=
  ⟨m, w.toNat, w.toNat + s.par.runMargin, s.par.imgGrowRows⟩

/-- What the encoder's page machinery reads in such a page. -/
def txPageOf (s : State) (m : Mode) (w minRow : Word) : TxPage :=
  ⟨m, w.toNat, match m with | .t42d => s.enc.k.getD 0 | .t41d => 0 | .t6 => 0, minRow.toNat, s.par.outGrowBytes⟩

/-- The bits a PUT command carries, in their order (R148, R308 to R310); none for another instruction. -/
def putBitsOf : Instr → List Bool
  | .rxPutBit bit => [bit]
  | .rxPutByte byte => (List.range 8).map fun j => byte.getLsbD j
  | .rxPutChunk len buf => (buf.take len.toNat).flatMap fun v => (List.range 8).map fun j => v.getLsbD j
  | _ => []

/-- A PUT command, with the host buffer that it needs. -/
def isPut : Instr → Bool
  | .rxPutBit _ => true
  | .rxPutByte _ => true
  | .rxPutChunk len buf => decide (len.toNat ≤ buf.length)
  | _ => false

/-- RX_PUT_BITs one after the other, answered as one command (R75, R243, R309, R310): `invalid` holds if any of them raised
it, and there is one status. -/
def putAll : List Bool → Bool → State → Res State
  | [], invalid, s =>
    .next ((s.withDec { s.dec with invalid := invalid }).withResult
      (.status (if s.dec.nomem then 4 else if s.dec.complete then 1 else if invalid then 5 else 0)))
  | b :: bs, invalid, s => andThen (exec (.rxPutBit b) s) fun t => putAll bs (invalid || t.dec.invalid) t

/-! ## Code words and runs of them -/

/-- The code words of a context (R91). -/
def wordsOf : Context → List Instr
  | .eol false => [.eol]
  | .eol true => [.eol1, .eol0]
  | .mode2d => modeRows.map CodeRow.instr
  | .run color => (runRows color).map CodeRow.instr

/-- Code words one after the other, each in the context that the decoder is in (R91, R204), until one stops or stands in
another context. -/
def readAll : List Instr → State → Res State
  | [], s => .next s
  | i :: is, s =>
    admitIf (decide (i ∈ wordsOf s.dec.context)) (.notAdmitted s.dec.life) <| andThen (exec i s) (readAll is)

/-- The forms of an EOL (R92, R209): the instruction, the page's mode, the tag read and the bits consumed. -/
def eolForms (s : State) : List (Instr × Mode × Option Bool × Nat) :=
  [(.eol, .t41d, none, 12), (.eol, .t6, none, 12), (.eol, .t42d, some (s.dec.view.getLsbD 12), 13),
   (.eol1, .t42d, some true, 13), (.eol0, .t42d, some false, 13)]

end Sys2Proof.Machine
end

