-- ==== Sys2Proof/Certificates/Slice0/Obligations.lean ====
section
/-! DEFINITION. The statements about the model, for the provers. A docstring cites the rule a statement formalises; where it
rests on a choice of the model, it names the log entry. -/

open Sys2Proof Sys2Proof.Machine

/-! ## Encoding -/

/-- Decode and encode agree on every code word (R91, R100): in a context, a window holds exactly the code word of that
context whose bits are the window's oldest bits; every code word stands in some context. -/
def Obligations.CodeWordsDecodeFromTheirBits : Prop :=
  (∀ (c : Context) (i : Instr) (win : BitVec 13),
    decodeCode c win = .ok i ↔
      i ∈ wordsOf c ∧ win.toNat % 2 ^ (codeBits i).length = windowValue (codeBits i)) ∧
  ∀ i : Instr, isCodeWord i = true → ∃ c, i ∈ wordsOf c

/-- Decode and encode agree on every host command, with every operand, and operand bits that a command does not name are
ignored (R107, R108). -/
def Obligations.CommandsDecodeFromTheirEncoding : Prop :=
  (∀ i : Instr, isCodeWord i = false → ∃ c, encode i = .command c ∧ decodeCommand c = .ok i) ∧
  ∀ (arg : Word) (buf : List Byte),
    (∀ op ∈ [(0x01 : Byte), 0x02, 0x08, 0x09, 0x0A, 0x0B, 0x0C, 0x0D, 0x0F, 0x11, 0x12, 0x18, 0x19, 0x1F],
      decodeCommand ⟨op, arg, buf⟩ = decodeCommand ⟨op, 0, []⟩) ∧
    (∀ op ∈ [(0x04 : Byte), 0x05, 0x06, 0x07, 0x14, 0x15, 0x16],
      decodeCommand ⟨op, arg, buf⟩ = decodeCommand ⟨op, arg, []⟩) ∧
    (∀ op ∈ [(0x03 : Byte), 0x13], decodeCommand ⟨op, arg, buf⟩ = decodeCommand ⟨op, arg &&& 3, []⟩) ∧
    decodeCommand ⟨0x1C, arg, buf⟩ = decodeCommand ⟨0x1C, arg &&& 1, []⟩ ∧
    decodeCommand ⟨0x1D, arg, buf⟩ = decodeCommand ⟨0x1D, arg &&& 0xFF, []⟩

/-- The reserved opcodes, and a step that meets one (R110). -/
def Obligations.ReservedOpcodesAreRefused : Prop :=
  ∀ c : Command,
    (decodeCommand c = .error (.reservedOpcode c.op) ↔
      c.op ∈ [(0x00 : Byte), 0x10, 0x17, 0x1A, 0x1B] ∨ 0x20 ≤ c.op.toNat) ∧
    ∀ (s : State) (rest : List Command), decisionDue s = false → s.host.queue = c :: rest →
      (c.op ∈ [(0x00 : Byte), 0x10, 0x17, 0x1A, 0x1B] ∨ 0x20 ≤ c.op.toNat) →
      step s = .refused (.reservedOpcode c.op)

/-- The MODE field (R111). -/
def Obligations.ModeFieldNamesTheMode : Prop :=
  ∀ s : State,
    (s.enc.life ≠ .uninit →
      (∀ x ∈ [((0 : BitVec 2), Mode.t41d), (1, .t42d), (2, .t6)],
        exec (.txSetMode x.1) s =
          .next ((s.withEnc { s.enc with cfg := { s.enc.cfg with mode := some x.2 } }).withResult (.status 1))) ∧
      exec (.txSetMode 3) s = .refused .reservedMode) ∧
    (s.dec.life ≠ .uninit →
      (∀ x ∈ [((0 : BitVec 2), Mode.t41d), (1, .t42d), (2, .t6)],
        exec (.rxSetMode x.1) s =
          .next ((s.withDec { s.dec with cfg := { s.dec.cfg with mode := some x.2 } }).withResult (.status 1))) ∧
      exec (.rxSetMode 3) s = .refused .reservedMode)

/-- The one-dimensional codes of a colour and EOL form a prefix-free set; what no table entry begins is exactly the windows
that begin with eight zeros, EOL among them; the only unmatched peek of the 2D table is seven zeros (R101). -/
def Obligations.UnmatchedSpaceIsEightZeros : Prop :=
  (∀ color, ((runRows color).map (fun r => codeBits r.instr) ++ [codeBits .eol]).Pairwise
    fun a b => ¬ a <+: b ∧ ¬ b <+: a) ∧
  (∀ (color : Color) (win : BitVec 13), lookupRow (runRows color) win = none ↔ win.toNat % 2 ^ 8 = 0) ∧
  (∀ win : BitVec 13, isEol win = true → win.toNat % 2 ^ 8 = 0) ∧
  ∀ win : BitVec 13, decodeCode .mode2d win = .ok .null2d ↔ win.toNat % 2 ^ 7 = 0

/-- A few words written out from the tables of `30_encoding.md` decode to their instructions. -/
def Obligations.WrittenWordsDecode : Prop :=
  decodeCode (.run .white) 0b0000000001110 = .ok .wt2 ∧
  decodeCode (.run .black) 0b0000000000110 = .ok .bt4 ∧
  decodeCode (.run .white) 0b0000000011011 = .ok .wm64 ∧
  decodeCode (.run .black) 0b0001111000000 = .ok .bm64 ∧
  decodeCode (.run .black) 0b0111110000000 = .ok .xm2560 ∧
  decodeCode .mode2d 0b0000000001000 = .ok .pass ∧
  decodeCode .mode2d 0b0000000100000 = .ok .vl3 ∧
  decodeCode (.eol false) 0b0100000000000 = .ok .eol ∧
  decodeCode (.eol true) 0b1100000000000 = .ok .eol1 ∧
  decodeCommand ⟨0x04, 1728, []⟩ = .ok (.txSetWidth 1728) ∧
  decodeTableWord 8 0xAC = some .wt0 ∧ decodeTableWord 8 0x0E = some (.txGetChunk 0 [])

/-! ## The step -/

/-- A step runs the decoded instruction: the host command at the head of the queue (R85), or, inside the decision loop, the
code word of the window in the context that the tests of R204 choose (log 1, log 2). -/
def Obligations.StepRunsTheDecodedInstruction : Prop :=
  (∀ (s : State) (c : Command) (rest : List Command) (i : Instr),
    decisionDue s = false → s.host.queue = c :: rest → decodeCommand c = .ok i →
    step s = exec i (s.withQueue rest)) ∧
  (∀ (s : State) (i : Instr), decisionDue s = true → isEol s.dec.win = true →
    decodeCode (.eol (s.dec.pcfg.mode == some .t42d)) s.dec.win = .ok i → step s = exec i s) ∧
  ∀ (s : State) (i : Instr), decisionDue s = true → isEol s.dec.win = false → s.dec.skip = 0 → s.dec.eolCount ≠ -1 →
    decodeCode (if s.dec.rowIs2d ∧ s.dec.hpair = .none then .mode2d else .run s.dec.color) s.dec.win = .ok i →
    step s = exec i s

/-- A step that reads no code word: a skipped bit (R205), a hunted bit (R206), an unmatched bit of a run (R229), and the idle
block (R342). -/
def Obligations.StepsThatReadNoCodeWord : Prop :=
  (∀ (s : State) (m : Mode) (w : Word), InRxPage s m w → decisionDue s = true → isEol s.dec.win = false →
    (0 < s.dec.skip → step s = .next (s.withDec { s.dec with
      win := s.dec.win >>> 1, winCount := s.dec.winCount - 1, skip := s.dec.skip - 1 })) ∧
    (s.dec.skip = 0 → s.dec.eolCount = -1 → step s = .next (s.withDec { s.dec with
      win := s.dec.win >>> 1, winCount := s.dec.winCount - 1 })) ∧
    (s.dec.skip = 0 → s.dec.eolCount ≠ -1 → (s.dec.rowIs2d = false ∨ s.dec.hpair ≠ .none) →
      s.dec.win.toNat % 2 ^ 8 = 0 → step s = .next (s.withDec { s.dec with
        win := s.dec.win >>> 1, winCount := s.dec.winCount - 1, bitsInRow := s.dec.bitsInRow + 1,
        trace := s.dec.trace ++ [.bad1d] }))) ∧
  ∀ s : State, decisionDue s = false → s.host.queue = [] → step s = .next s

/-- A bit that fills the window runs one decision (R200, R201, R243): a code word is the instruction that `exec` runs, its
fault included; a skipped bit (R205), a hunted bit (R206) and an unmatched bit of a run (R229) leave the window, and the
command answers MORE_DATA. A PUT_BYTE or PUT_CHUNK is the PUT_BITs of its bits, one after the other, with `invalid` cleared
once and one status (R75, R148, R309, R310). -/
def Obligations.PutBitRunsOneDecision : Prop :=
  (∀ (s : State) (m : Mode) (w : Word) (b : Bool) (d : Dec),
    InRxPage s m w → s.dec.winCount = 12 → s.dec.complete = false → s.dec.nomem = false →
    s.dec.pageBits + 1 < 2 ^ 32 →
    d = { s.dec with
      invalid := false, win := putBit s.dec.win 12 b, winCount := 13, pageBits := s.dec.pageBits + 1 } →
    (∀ i : Instr, d.decision = .code i →
      (∀ t, exec i (s.withDec d) = .next t → exec (.rxPutBit b) s = .next (t.withResult (.status
        (if t.dec.nomem then 4 else if t.dec.complete then 1 else if t.dec.invalid then 5 else 0)))) ∧
      ∀ x, exec i (s.withDec d) = .fault x → exec (.rxPutBit b) s = .fault x) ∧
    (isEol d.win = false →
      (0 < s.dec.skip → exec (.rxPutBit b) s = .next ((s.withDec { d with
        win := d.win >>> 1, winCount := 12, skip := s.dec.skip - 1 }).withResult (.status 0))) ∧
      (s.dec.skip = 0 → s.dec.eolCount = -1 → exec (.rxPutBit b) s = .next ((s.withDec { d with
        win := d.win >>> 1, winCount := 12 }).withResult (.status 0))) ∧
      (s.dec.skip = 0 → s.dec.eolCount ≠ -1 → (s.dec.rowIs2d = false ∨ s.dec.hpair ≠ .none) →
        d.win.toNat % 2 ^ 8 = 0 → exec (.rxPutBit b) s = .next ((s.withDec { d with
          win := d.win >>> 1, winCount := 12, bitsInRow := s.dec.bitsInRow + 1,
          trace := s.dec.trace ++ [.bad1d] }).withResult (.status 0))))) ∧
  ∀ (i : Instr) (s : State) (m : Mode) (w : Word), isPut i = true → InRxPage s m w →
    exec i s = putAll (putBitsOf i) false s

/-! ## Reset and invariants -/

/-- The power-on values that the spec gives (R22 to R26, R28, R30, R32, R352 to R354). -/
def Obligations.PowerOnValues : Prop :=
  (State.reset.enc.life = .uninit ∧ State.reset.enc.cfg = ⟨none, none, none, none, some 0⟩ ∧
    State.reset.enc.pcfg = ⟨none, none, none, none, none⟩ ∧ State.reset.enc.k = none ∧
    State.reset.enc.refRuns = [] ∧ State.reset.enc.rowsTo1d = 0 ∧ State.reset.enc.out = [] ∧
    State.reset.enc.outBytes = 0 ∧ State.reset.enc.outCap = 0 ∧ State.reset.enc.srcDone = false ∧
    State.reset.enc.termDone = false ∧ State.reset.enc.rowReadError = false ∧ State.reset.enc.nomem = false) ∧
  (State.reset.dec.life = .uninit ∧ State.reset.dec.cfg = ⟨none, none, none, none⟩ ∧
    State.reset.dec.pcfg = ⟨none, none, none, none⟩ ∧ State.reset.dec.img = [] ∧ State.reset.dec.rows = 0 ∧
    State.reset.dec.imgCapRows = 0 ∧ State.reset.dec.trace = [])

/-- The invariant holds at power-on. -/
def Obligations.PowerOnMeetsTheInvariant : Prop := Inv State.reset

/-- Every step keeps the encoder's invariant: `OUT` keeps its form and holds every stored byte, at most 7 bits wait, a page
has its configuration and a reference of `W` pixels, a terminated page is whole bytes (R26, R72, R82, R140, R183, R186). -/
def Obligations.StepKeepsTheEncoderInvariant : Prop :=
  ∀ s t : State, ParamsOk s.par → EncInv s.par s.enc → step s = .next t → EncInv t.par t.enc

/-- Every step keeps the decoder's invariant: `IMG` keeps its form and holds every committed row, the reference is `W` pixels
long, the window and the cursors stay in range (R40 to R49, R71, R260, R276). -/
def Obligations.StepKeepsTheDecoderInvariant : Prop :=
  ∀ s t : State, ParamsOk s.par → DecInv s.par s.dec → step s = .next t → DecInv t.par t.dec

/-- The channels share no state and do not observe each other (R86, R340): no instruction writes the parameters or the
queue (log 6, log 1); a transmit command leaves the decoder alone and does the same whatever the decoder holds; every other
instruction leaves the encoder alone and does the same whatever the encoder holds. -/
def Obligations.ChannelsShareNoState : Prop :=
  ∀ (i : Instr) (s t : State), exec i s = .next t →
    t.par = s.par ∧ t.host.queue = s.host.queue ∧
    (isTx i = true → t.dec = s.dec ∧ ∀ d, exec i (s.withDec d) = .next (t.withDec d)) ∧
    (isTx i = false → t.enc = s.enc ∧ ∀ e, exec i (s.withEnc e) = .next (t.withEnc e))

/-- Who writes the configuration and snapshot registers: the setters and INIT the staged one (R23), START_PAGE, which copies
the staged one, and INIT the page's (R24), END_PAGE and INIT the statistics (R51). RELEASE, after which the spec leaves them
unspecified, is not spoken of (log 12). -/
def Obligations.OnlyStartPageConfiguresThePage : Prop :=
  ∀ (i : Instr) (s t : State), exec i s = .next t →
    (match i with
      | .txSetMode _ | .txSetWidth _ | .txSetXres _ | .txSetYres _ | .txSetMinRowBits _ | .txInit | .txRelease => True
      | _ => t.enc.cfg = s.enc.cfg) ∧
    (match i with
      | .rxSetMode _ | .rxSetWidth _ | .rxSetXres _ | .rxSetYres _ | .rxInit | .rxRelease => True
      | _ => t.dec.cfg = s.dec.cfg) ∧
    (i ≠ .txStartPage → i ≠ .txInit → i ≠ .txRelease → t.enc.pcfg = s.enc.pcfg ∧ t.enc.k = s.enc.k) ∧
    (i ≠ .rxStartPage → i ≠ .rxInit → i ≠ .rxRelease → t.dec.pcfg = s.dec.pcfg) ∧
    (i = .txStartPage → t.enc.life = .inPage → t.enc.pcfg = s.enc.cfg) ∧
    (i = .rxStartPage → t.dec.life = .inPage → t.dec.pcfg = s.dec.cfg) ∧
    (i ≠ .txEndPage → i ≠ .txInit → i ≠ .txRelease → t.enc.stats = s.enc.stats) ∧
    (i ≠ .rxEndPage → i ≠ .rxInit → i ≠ .rxRelease → t.dec.stats = s.dec.stats)

/-! ## Lifecycle commands -/

/-- INIT and RELEASE of both channels (R280, R281, R300, R301, with the columns of R352 and R353; log 13). That the registers
which those columns leave unspecified keep their value is the model's choice (log 12 for RELEASE, log 36 for INIT). -/
def Obligations.InitOpensAndReleaseCloses : Prop :=
  ∀ s : State,
    (s.enc.life = .uninit → exec .txInit s = .next ((s.withEnc { s.enc with
      life := .idle, cfg := ⟨none, none, none, none, some 0⟩, pcfg := ⟨none, none, none, none, none⟩, k := none,
      refRuns := [], rowsTo1d := 0, out := [], outBytes := 0, outCap := 0, outPos := 0, srcDone := false,
      termDone := false, rowReadError := false, nomem := false, stats := ⟨0, 0, 0, 0, 0, 0, 0, 0, 0⟩
      }).withResult (.status 1))) ∧
    (s.enc.life = .uninit → exec .txRelease s = .next (s.withResult (.status 1))) ∧
    (s.enc.life ≠ .uninit → exec .txRelease s = .next ((s.withEnc { s.enc with
      life := .uninit, out := [], outBytes := 0, outCap := 0, refRuns := [], curRuns := [], nomem := false
      }).withResult (.status 1))) ∧
    (s.dec.life = .uninit → exec .rxInit s = .next ((s.withDec { s.dec with
      life := .idle, cfg := ⟨none, none, none, none⟩, pcfg := ⟨none, none, none, none⟩, img := [], imgCapRows := 0,
      rows := 0, stats := ⟨0, 0, 0, 0, 0, 0, 0, 0, 0⟩ }).withResult (.status 1))) ∧
    (s.dec.life = .uninit → exec .rxRelease s = .next (s.withResult (.status 1))) ∧
    (s.dec.life ≠ .uninit → exec .rxRelease s = .next ((s.withDec { s.dec with
      life := .uninit, img := [], imgCapRows := 0, rows := 0, refRuns := [], curRuns := [], nomem := false
      }).withResult (.status 1)))

/-- The setters but SET_MODE stage one field, in `IDLE` and in a page alike (R283 to R286, R303 to R305, R364). -/
def Obligations.SettersStageOneField : Prop :=
  ∀ (s : State) (x : Word),
    (s.enc.life ≠ .uninit →
      (1 ≤ x.toNat → x.toNat ≤ s.par.wMax → exec (.txSetWidth x) s =
        .next ((s.withEnc { s.enc with cfg := { s.enc.cfg with width := some x } }).withResult (.status 1))) ∧
      exec (.txSetXres x) s =
        .next ((s.withEnc { s.enc with cfg := { s.enc.cfg with xres := some x } }).withResult (.status 1)) ∧
      exec (.txSetYres x) s =
        .next ((s.withEnc { s.enc with cfg := { s.enc.cfg with yres := some x } }).withResult (.status 1)) ∧
      exec (.txSetMinRowBits x) s =
        .next ((s.withEnc { s.enc with cfg := { s.enc.cfg with minRowBits := some x } }).withResult (.status 1))) ∧
    (s.dec.life ≠ .uninit →
      (1 ≤ x.toNat → x.toNat ≤ s.par.wMax → exec (.rxSetWidth x) s =
        .next ((s.withDec { s.dec with cfg := { s.dec.cfg with width := some x } }).withResult (.status 1))) ∧
      exec (.rxSetXres x) s =
        .next ((s.withDec { s.dec with cfg := { s.dec.cfg with xres := some x } }).withResult (.status 1)) ∧
      exec (.rxSetYres x) s =
        .next ((s.withDec { s.dec with cfg := { s.dec.cfg with yres := some x } }).withResult (.status 1)))

/-- START_PAGE opens a page where the RunArrays are granted, the configuration copied and everything a page's coding reads
reset (R287, R306, R358); where they are not, it answers NOMEM and the channel stays `IDLE` (R83, R324). The encoder's page
reads the row source's next sequence, and no answer of an earlier page (R313; that a START_PAGE without memory takes none is
log 37). That `cur_row` and `cur_runs`, and `k` outside `T4_2D`, keep their value is the model's choice (log 32, log 35). -/
def Obligations.StartPageOpensThePage : Prop :=
  ∀ (s : State) (m : Mode) (w : Word) (rest : List Bool),
    (s.enc.life = .idle → s.enc.cfg.mode = some m → s.enc.cfg.width = some w →
      (m = .t42d → s.enc.cfg.yres.isSome) → s.enc.alloc.script = true :: rest →
      exec .txStartPage s = .next ((s.withEnc { s.enc with
        life := .inPage, pcfg := s.enc.cfg,
        k := if m = .t42d then s.enc.cfg.yres.map (kOf s.par) else s.enc.k,
        refRuns := [w.toNat], rowsTo1d := 0, acc := 0, accBits := 0, outBytes := 0, rowBits := 0, srcDone := false,
        termDone := false, rowReadError := false, nomem := false, outPos := 0, rows := 0,
        page := ⟨0, 0, 0, none, none⟩, alloc := ⟨rest, s.enc.alloc.draws + 1⟩,
        source := ⟨s.enc.source.later.headD [], 0, s.enc.source.later.tail, s.enc.source.page + 1⟩
        }).withResult (.status 1))) ∧
    (s.dec.life = .idle → s.dec.cfg.mode = some m → s.dec.cfg.width = some w → s.dec.alloc.script = true :: rest →
      exec .rxStartPage s = .next ((s.withDec { s.dec with
        life := .inPage, pcfg := s.dec.cfg, win := 0, winCount := 0, skip := 0,
        eolCount := if m = .t6 then 0 else -1, complete := false, rowIs2d := decide (m = .t6), a0 := -1,
        color := .white, runAcc := 0, hpair := .none, codes := 0, overflow := false, curRuns := [],
        refRuns := [w.toNat], rows := 0, nomem := false, invalid := false, bitsInRow := 0, pageBits := 0,
        page := ⟨0, 0, 0, none, none⟩, alloc := ⟨rest, s.dec.alloc.draws + 1⟩ }).withResult (.status 1))) ∧
    (s.enc.life = .idle → s.enc.cfg.mode = some m → s.enc.cfg.width = some w →
      (m = .t42d → s.enc.cfg.yres.isSome) → s.enc.alloc.script = false :: rest →
      exec .txStartPage s =
        .next ((s.withEnc { s.enc with alloc := ⟨rest, s.enc.alloc.draws + 1⟩ }).withResult (.status 4))) ∧
    (s.dec.life = .idle → s.dec.cfg.mode = some m → s.dec.cfg.width = some w → s.dec.alloc.script = false :: rest →
      exec .rxStartPage s =
        .next ((s.withDec { s.dec with alloc := ⟨rest, s.dec.alloc.draws + 1⟩ }).withResult (.status 4)))

/-- K of a page (R176): the decided table, and START_PAGE's register `k` in `T4_2D`. -/
def Obligations.KFollowsTheResolution : Prop :=
  (∀ y : Word, kOf Config.params y =
    if y = 100 then 2 else if y = 200 then 4 else if y = 300 then 6 else if y = 400 then 8
    else if y = 600 then 12 else if y = 800 then 16 else if y = 1200 then 24 else 2) ∧
  ∀ (s t : State) (y : Word), s.enc.cfg.mode = some .t42d → s.enc.cfg.yres = some y → exec .txStartPage s = .next t →
    t.enc.life = .inPage → t.enc.k = some (kOf s.par y)

/-- TX_END_PAGE (R288, R188, R355): the status by its priority, the snapshot, the channel `IDLE`. -/
def Obligations.TxEndPageSnapshots : Prop :=
  ∀ (s : State) (m : Mode) (w b : Word), InTxPage s m w b → s.enc.stats.pages.toNat + 1 < 2 ^ 32 →
    s.enc.rows < 2 ^ 32 → (8 * s.enc.outBytes + s.enc.accBits + 7) / 8 < 2 ^ 32 →
    exec .txEndPage s = .next ((s.withEnc { s.enc with
      life := .idle
      stats := ⟨s.enc.stats.pages + 1, w, BitVec.ofNat 32 s.enc.rows, s.enc.pcfg.xres.getD 0, s.enc.pcfg.yres.getD 0,
        0, 0, match m with | .t41d => 0 | .t42d => 1 | .t6 => 2,
        BitVec.ofNat 32 ((8 * s.enc.outBytes + s.enc.accBits + 7) / 8)⟩ }).withResult
      (.status (if s.enc.nomem then 4 else if s.enc.rowReadError then 7 else if s.enc.termDone then 1 else 6)))

/-- RX_END_PAGE where nothing is left to drain, and no row is in progress or the page is over (R307, R274, R277, R355): the
streak folded, the end marker sent, the snapshot, the status by its priority, the channel `IDLE`. That the window registers
keep the bits that were not decoded is the model's choice (log 29). -/
def Obligations.RxEndPageSnapshots : Prop :=
  ∀ (s : State) (m : Mode) (w : Word), InRxPage s m w → s.dec.drains = false →
    s.dec.complete = true ∨ s.dec.nomem = true ∨ s.dec.rowLen = 0 →
    s.dec.stats.pages.toNat + 1 < 2 ^ 32 → s.dec.rows < 2 ^ 32 → s.dec.page.badRows < 2 ^ 32 →
    max s.dec.page.longestBadRun s.dec.page.curBadRun < 2 ^ 32 → (s.dec.pageBits + 7) / 8 < 2 ^ 32 →
    exec .rxEndPage s = .next ((s.withDec { s.dec with
      life := .idle
      page := { s.dec.page with
        longestBadRun := max s.dec.page.longestBadRun s.dec.page.curBadRun, curBadRun := 0 }
      sink := s.dec.sink ++ [⟨s.dec.userData, none, 0⟩]
      stats := ⟨s.dec.stats.pages + 1, w, BitVec.ofNat 32 s.dec.rows, s.dec.pcfg.xres.getD 0, s.dec.pcfg.yres.getD 0,
        BitVec.ofNat 32 s.dec.page.badRows,
        BitVec.ofNat 32 (max s.dec.page.longestBadRun s.dec.page.curBadRun),
        match m with | .t41d => 0 | .t42d => 1 | .t6 => 2,
        BitVec.ofNat 32 ((s.dec.pageBits + 7) / 8)⟩ }).withResult
      (.status (if s.dec.nomem then 4 else if s.dec.complete then 1 else 6)))

/-- RX_END_PAGE first decodes what the window holds, decision after decision (R241): a code word, which lies wholly in the
valid bits, with its fault if it faults, a skipped, a hunted or an unmatched bit. Then it commits a partial row (R242). That
`win_count` keeps the bits which are not decoded, where R241 discards them, is the model's choice (log 29); that the command
goes on after a partial commit without memory is log 21. -/
def Obligations.RxEndPageDrainsAndCommits : Prop :=
  (∀ (s : State) (i : Instr), s.dec.life = .inPage → s.dec.drains = true → s.dec.decision = .code i →
    (i ≠ .null2d → (codeBits i).length ≤ s.dec.winCount) ∧
    (∀ t, exec i s = .next t → exec .rxEndPage s = exec .rxEndPage t) ∧
    ∀ x, exec i s = .fault x → exec .rxEndPage s = .fault x) ∧
  (∀ (s : State) (m : Mode) (w : Word), InRxPage s m w → s.dec.drains = true → isEol s.dec.view = false →
    (0 < s.dec.skip → exec .rxEndPage s = exec .rxEndPage (s.withDec { s.dec with
      win := s.dec.win >>> 1, winCount := s.dec.winCount - 1, skip := s.dec.skip - 1 })) ∧
    (s.dec.skip = 0 → s.dec.eolCount = -1 → exec .rxEndPage s = exec .rxEndPage (s.withDec { s.dec with
      win := s.dec.win >>> 1, winCount := s.dec.winCount - 1 })) ∧
    (s.dec.skip = 0 → s.dec.eolCount ≠ -1 → (s.dec.rowIs2d = false ∨ s.dec.hpair ≠ .none) →
      s.dec.view.toNat % 2 ^ 8 = 0 → exec .rxEndPage s = exec .rxEndPage (s.withDec { s.dec with
        win := s.dec.win >>> 1, winCount := s.dec.winCount - 1, bitsInRow := s.dec.bitsInRow + 1,
        trace := s.dec.trace ++ [.bad1d] }))) ∧
  ∀ (s : State) (m : Mode) (w : Word) (d : Dec), InRxPage s m w → s.dec.drains = false → s.dec.complete = false →
    s.dec.nomem = false → 0 < s.dec.rowLen → s.dec.commitRow (rxPageOf s m w) = .next d →
    exec .rxEndPage s = andThen (exec .rxEndPage (s.withDec { d with winCount := 0 })) fun t =>
      .next (t.withDec { t.dec with winCount := d.winCount })

/-- The queries change nothing but the result, and RESTART_PAGE rewinds the delivery cursor (R289, R290, R294, R311, R78). -/
def Obligations.QueriesAndRestart : Prop :=
  ∀ s : State,
    (s.enc.life ≠ .uninit →
      exec .txGetStats s = .next (s.withResult (.stats s.enc.stats)) ∧
      exec .txNextPageDifferent s = .next (s.withResult (.flag
        (if s.enc.pcfg = ⟨none, none, none, none, none⟩ ∨ s.enc.cfg.mode ≠ s.enc.pcfg.mode ∨
            s.enc.cfg.width ≠ s.enc.pcfg.width ∨ s.enc.cfg.xres ≠ s.enc.pcfg.xres ∨
            s.enc.cfg.yres ≠ s.enc.pcfg.yres then 1 else 0)))) ∧
    (s.dec.life ≠ .uninit → exec .rxGetStats s = .next (s.withResult (.stats s.dec.stats))) ∧
    (s.enc.life = .inPage →
      exec .txRestartPage s = .next ((s.withEnc { s.enc with outPos := 0 }).withResult (.status 1)))

/-! ## Refusals -/

/-- Every command in every lifecycle state that R312 does not admit it in is refused (R330). That a code word outside a page,
which the decoder never reads there, is refused in the same way is the model's choice (log 3). -/
def Obligations.UnadmittedInstructionsAreRefused : Prop :=
  ∀ (i : Instr) (s : State), admits i (lifeFor i s) = false → exec i s = .refused (.notAdmitted (lifeFor i s))

/-- The refusals that an operand, the delivery cursor or a missing configuration causes (R330, R76, R287, R306). -/
def Obligations.BadOperandsAreRefused : Prop :=
  ∀ (s : State) (x : Word),
    (x.toNat = 0 ∨ s.par.wMax < x.toNat →
      (s.enc.life ≠ .uninit → exec (.txSetWidth x) s = .refused .widthRange) ∧
      (s.dec.life ≠ .uninit → exec (.rxSetWidth x) s = .refused .widthRange)) ∧
    (∀ (m : Mode) (w b : Word) (buf : List Byte), InTxPage s m w b →
      (s.enc.outPos % 8 ≠ 0 →
        exec .txGetByte s = .refused .unaligned ∧ exec (.txGetChunk x buf) s = .refused .unaligned) ∧
      (s.enc.outPos % 8 = 0 → 2 ^ 31 ≤ x.toNat → exec (.txGetChunk x buf) s = .refused .chunkRange)) ∧
    (s.enc.life = .idle →
      (s.enc.cfg.mode = none ∨ s.enc.cfg.width = none ∨ (s.enc.cfg.mode = some .t42d ∧ s.enc.cfg.yres = none)) →
      exec .txStartPage s = .refused .unconfigured) ∧
    (s.dec.life = .idle → (s.dec.cfg.mode = none ∨ s.dec.cfg.width = none) →
      exec .rxStartPage s = .refused .unconfigured)

/-! ## PUT commands -/

/-- After the page end pattern, or after a memory failure, the bits of a PUT command are discarded (R203). -/
def Obligations.PutAfterThePageEndDiscards : Prop :=
  ∀ (i : Instr) (s : State) (m : Mode) (w : Word), isPut i = true → InRxPage s m w →
    s.dec.complete = true ∨ s.dec.nomem = true →
    exec i s = .next ((s.withDec { s.dec with invalid := false }).withResult
      (.status (if s.dec.nomem then 4 else 1)))

/-- Bits that leave the window below 13 bits wait in it, oldest lowest, and nothing else happens (R144, R145, R202). -/
def Obligations.PutBelowThirteenBitsWaits : Prop :=
  ∀ (i : Instr) (s : State) (m : Mode) (w : Word), isPut i = true → InRxPage s m w → s.dec.complete = false →
    s.dec.nomem = false → s.dec.win.toNat < 2 ^ s.dec.winCount → s.dec.winCount + (putBitsOf i).length < 13 →
    s.dec.pageBits + (putBitsOf i).length < 2 ^ 32 →
    exec i s = .next ((s.withDec { s.dec with
      invalid := false
      win := BitVec.ofNat 13 (s.dec.win.toNat + 2 ^ s.dec.winCount * windowValue (putBitsOf i))
      winCount := s.dec.winCount + (putBitsOf i).length
      pageBits := s.dec.pageBits + (putBitsOf i).length }).withResult (.status 0))

/-- A PUT command ends, whatever its bits are, with the status of R243: on a sound decoder between two commands, where no
counter and no run can reach its bound, nothing stops it (R315, R343). -/
def Obligations.PutCommandsComplete : Prop :=
  ∀ (i : Instr) (s : State) (m : Mode) (w : Word), isPut i = true → InRxPage s m w → ParamsOk s.par →
    DecInv s.par s.dec → s.dec.winCount ≤ 12 →
    s.dec.pageBits + (putBitsOf i).length < 2 ^ 32 → s.dec.rows + (putBitsOf i).length + 13 < 2 ^ 32 →
    s.dec.rowLen + ((putBitsOf i).length + 13) * (w.toNat + 2563) < 2 ^ 31 →
    ∃ t, exec i s = .next t ∧ t.host.result = some (.status
      (if t.dec.nomem then 4 else if t.dec.complete then 1 else if t.dec.invalid then 5 else 0))

/-! ## Run codes -/

/-- WT0 to WT63 and BT0 to BT63 (R230, R231, R104, R205, R215, R216, R235, R245): entry `n` of its table closes a run of
`run_acc + n`, discarded where the RunArray is full, flips the colour and, in a 2D row, advances the pair; here where no
`T6` row ends. -/
def Obligations.TerminatingCodesCloseTheRun : Prop :=
  ∀ (rows : List CodeRow) (n : Nat) (r : CodeRow) (s : State) (m : Mode) (w : Word) (runs : List Nat),
    rows = whiteTermRows ∨ rows = blackTermRows → rows[n]? = some r → InRxPage s m w →
    s.dec.runAcc + n < 2 ^ 31 →
    (w.toNat + s.par.runMargin - 2 ≤ s.dec.curRuns.length ∨ s.dec.rowLen + n < 2 ^ 31) →
    runs = (if w.toNat + s.par.runMargin - 2 ≤ s.dec.curRuns.length then s.dec.curRuns
      else s.dec.curRuns ++ [s.dec.runAcc + n]) →
    (m ≠ .t6 ∨ s.dec.rowIs2d = false ∨ s.dec.hpair ≠ .second ∨
      (runs.sum < w.toNat ∧ s.dec.codes + 1 < 2 * w.toNat + 2)) →
    exec r.instr s = .next (s.withDec { s.dec with
      win := s.dec.win >>> 1, winCount := s.dec.winCount - 1, skip := (codeBits r.instr).length - 1,
      bitsInRow := s.dec.bitsInRow + (codeBits r.instr).length,
      curRuns := runs,
      overflow := s.dec.overflow || decide (w.toNat + s.par.runMargin - 2 ≤ s.dec.curRuns.length),
      runAcc := 0, color := s.dec.color.flip,
      codes := if s.dec.rowIs2d then s.dec.codes + 1 else s.dec.codes,
      hpair := if s.dec.rowIs2d ∧ s.dec.hpair = .first then .second
        else if s.dec.rowIs2d ∧ s.dec.hpair = .second then .none else s.dec.hpair,
      a0 := if s.dec.rowIs2d ∧ s.dec.hpair = .second then (runs.sum : Int) else s.dec.a0 })

/-- WM64 to WM1728, BM64 to BM1728 and XM1792 to XM2560 (R232 to R234, R104, R205, R245): the open run grows by the make-up
value of the table index, and stays open. -/
def Obligations.MakeupCodesExtendTheRun : Prop :=
  ∀ (k v : Nat) (r : CodeRow) (s : State) (m : Mode) (w : Word),
    ((whiteMakeupRows[k]? = some r ∨ blackMakeupRows[k]? = some r) ∧ v = 64 * (k + 1)) ∨
      (extMakeupRows[k]? = some r ∧ v = 1792 + 64 * k) →
    InRxPage s m w → s.dec.rowLen + v < 2 ^ 31 →
    exec r.instr s = .next (s.withDec { s.dec with
      win := s.dec.win >>> 1, winCount := s.dec.winCount - 1, skip := (codeBits r.instr).length - 1,
      bitsInRow := s.dec.bitsInRow + (codeBits r.instr).length, runAcc := s.dec.runAcc + v })

/-- A run code, a V code or a P that would carry a run, the open run or the row's total to `2^31` faults (R12, R333); that
the row's total is tested, and not the run alone, is log 15. A run that a full RunArray discards is tested alone. -/
def Obligations.RunLimitFaults : Prop :=
  ∀ (s : State) (m : Mode) (w : Word), InRxPage s m w →
    (∀ (k v : Nat) (r : CodeRow),
      ((whiteMakeupRows[k]? = some r ∨ blackMakeupRows[k]? = some r) ∧ v = 64 * (k + 1)) ∨
        (extMakeupRows[k]? = some r ∧ v = 1792 + 64 * k) →
      2 ^ 31 ≤ s.dec.rowLen + v → exec r.instr s = .fault .runLimit) ∧
    (∀ (n : Nat) (r : CodeRow), whiteTermRows[n]? = some r ∨ blackTermRows[n]? = some r →
      2 ^ 31 ≤ s.dec.runAcc + n ∨
        (s.dec.curRuns.length < w.toNat + s.par.runMargin - 2 ∧ 2 ^ 31 ≤ s.dec.rowLen + n) →
      exec r.instr s = .fault .runLimit) ∧
    (∀ (x : Instr × Int) (a1 : Int),
      x ∈ [(.v0, 0), (.vr1, 1), (.vr2, 2), (.vr3, 3), (.vl1, -1), (.vl2, -2), (.vl3, -3)] →
      a1 = (b1Of (expand s.dec.refRuns w.toNat) s.dec.a0 s.dec.color : Int) + x.2 → max s.dec.a0 0 ≤ a1 →
      2 ^ 31 ≤ s.dec.runAcc + (a1 - max s.dec.a0 0).toNat ∨
        (s.dec.curRuns.length < w.toNat + s.par.runMargin - 2 ∧
          2 ^ 31 ≤ s.dec.rowLen + (a1 - max s.dec.a0 0).toNat) →
      exec x.1 s = .fault .runLimit) ∧
    ∀ b2 : Nat, b2 = b2Of (expand s.dec.refRuns w.toNat) s.dec.a0 s.dec.color → max s.dec.a0 0 ≤ b2 →
      2 ^ 31 ≤ s.dec.rowLen + (b2 - max s.dec.a0 0).toNat → exec .pass s = .fault .runLimit

/-! ## Two-dimensional modes -/

/-- V0, VR1 to VR3, VL1 to VL3 that are geometrically valid (R213, R214, R219 to R225, R105, R216), where no `T6` row
ends: the run up to `a1 = b1 + d` is closed. -/
def Obligations.VerticalCodesCloseTheRun : Prop :=
  ∀ (x : Instr × Int) (s : State) (m : Mode) (w : Word) (a1 : Int),
    x ∈ [(.v0, 0), (.vr1, 1), (.vr2, 2), (.vr3, 3), (.vl1, -1), (.vl2, -2), (.vl3, -3)] → InRxPage s m w →
    a1 = (b1Of (expand s.dec.refRuns w.toNat) s.dec.a0 s.dec.color : Int) + x.2 → max s.dec.a0 0 ≤ a1 →
    s.dec.runAcc + (a1 - max s.dec.a0 0).toNat < 2 ^ 31 →
    (w.toNat + s.par.runMargin - 2 ≤ s.dec.curRuns.length ∨ s.dec.rowLen + (a1 - max s.dec.a0 0).toNat < 2 ^ 31) →
    (m ≠ .t6 ∨ (a1 < w.toNat ∧ s.dec.codes + 1 < 2 * w.toNat + 2)) →
    exec x.1 s = .next (s.withDec { s.dec with
      win := s.dec.win >>> 1, winCount := s.dec.winCount - 1, skip := (codeBits x.1).length - 1,
      bitsInRow := s.dec.bitsInRow + (codeBits x.1).length, codes := s.dec.codes + 1,
      curRuns := if w.toNat + s.par.runMargin - 2 ≤ s.dec.curRuns.length then s.dec.curRuns
        else s.dec.curRuns ++ [s.dec.runAcc + (a1 - max s.dec.a0 0).toNat],
      overflow := s.dec.overflow || decide (w.toNat + s.par.runMargin - 2 ≤ s.dec.curRuns.length),
      runAcc := 0, a0 := a1, color := s.dec.color.flip })

/-- P that is geometrically valid (R217), where no `T6` row ends: the open run grows up to `b2`, which becomes `a0`. -/
def Obligations.PassExtendsTheRun : Prop :=
  ∀ (s : State) (m : Mode) (w : Word) (b2 : Nat), InRxPage s m w →
    b2 = b2Of (expand s.dec.refRuns w.toNat) s.dec.a0 s.dec.color → max s.dec.a0 0 ≤ b2 →
    s.dec.rowLen + (b2 - max s.dec.a0 0).toNat < 2 ^ 31 →
    (m ≠ .t6 ∨ (b2 < w.toNat ∧ s.dec.codes + 1 < 2 * w.toNat + 2)) →
    exec .pass s = .next (s.withDec { s.dec with
      win := s.dec.win >>> 1, winCount := s.dec.winCount - 1, skip := 3, bitsInRow := s.dec.bitsInRow + 4,
      codes := s.dec.codes + 1, runAcc := s.dec.runAcc + (b2 - max s.dec.a0 0).toNat, a0 := b2 })

/-- H opens a pair (R218), EXT2D has no effect (R226), NULL2D drops one bit (R227). -/
def Obligations.HorizontalExtensionAndNull : Prop :=
  ∀ (s : State) (m : Mode) (w : Word), InRxPage s m w →
    exec .horiz s = .next (s.withDec { s.dec with
      win := s.dec.win >>> 1, winCount := s.dec.winCount - 1, skip := 2, bitsInRow := s.dec.bitsInRow + 3,
      codes := s.dec.codes + 1, hpair := .first }) ∧
    exec .ext2d s = .next (s.withDec { s.dec with
      win := s.dec.win >>> 1, winCount := s.dec.winCount - 1, skip := 6, bitsInRow := s.dec.bitsInRow + 7,
      codes := s.dec.codes + 1, trace := s.dec.trace ++ [.ext] }) ∧
    exec .null2d s = .next (s.withDec { s.dec with
      win := s.dec.win >>> 1, winCount := s.dec.winCount - 1, bitsInRow := s.dec.bitsInRow + 1,
      trace := s.dec.trace ++ [.null] })

/-- A mode that would move the coding position backwards changes nothing of the row (R238, R245), and a Pass does so only
past the row's width (R217). -/
def Obligations.InvalidModesLeaveTheRow : Prop :=
  ∀ (s : State) (m : Mode) (w : Word), InRxPage s m w →
    (∀ x ∈ [(Instr.v0, (0 : Int)), (.vr1, 1), (.vr2, 2), (.vr3, 3), (.vl1, -1), (.vl2, -2), (.vl3, -3)],
      (b1Of (expand s.dec.refRuns w.toNat) s.dec.a0 s.dec.color : Int) + x.2 < max s.dec.a0 0 →
      exec x.1 s = .next (s.withDec { s.dec with
        win := s.dec.win >>> 1, winCount := s.dec.winCount - 1, skip := (codeBits x.1).length - 1,
        bitsInRow := s.dec.bitsInRow + (codeBits x.1).length, codes := s.dec.codes + 1, invalid := true,
        trace := s.dec.trace ++ [.invalid] })) ∧
    ((b2Of (expand s.dec.refRuns w.toNat) s.dec.a0 s.dec.color : Int) < max s.dec.a0 0 →
      (w.toNat : Int) < s.dec.a0 ∧
      exec .pass s = .next (s.withDec { s.dec with
        win := s.dec.win >>> 1, winCount := s.dec.winCount - 1, skip := 3, bitsInRow := s.dec.bitsInRow + 4,
        codes := s.dec.codes + 1, invalid := true, trace := s.dec.trace ++ [.invalid] }))

/-- A `T6` row ends with the V, the P or the second code of a pair that brings the position to its width, or the codes to
the backstop (R236, R237): the row's commit runs, and then the EOL counter is 0, after a commit that found no memory too
(log 21). -/
def Obligations.T6RowEndCommitsTheRow : Prop :=
  ∀ (s : State) (w : Word) (d : Dec), InRxPage s .t6 w →
    (∀ (x : Instr × Int) (a1 : Int),
      x ∈ [(.v0, 0), (.vr1, 1), (.vr2, 2), (.vr3, 3), (.vl1, -1), (.vl2, -2), (.vl3, -3)] →
      a1 = (b1Of (expand s.dec.refRuns w.toNat) s.dec.a0 s.dec.color : Int) + x.2 → max s.dec.a0 0 ≤ a1 →
      s.dec.rowLen + (a1 - max s.dec.a0 0).toNat < 2 ^ 31 → w.toNat ≤ a1 ∨ 2 * w.toNat + 2 ≤ s.dec.codes + 1 →
      Dec.commitRow (rxPageOf s .t6 w) { s.dec with
        win := s.dec.win >>> 1, winCount := s.dec.winCount - 1, skip := (codeBits x.1).length - 1,
        bitsInRow := s.dec.bitsInRow + (codeBits x.1).length, codes := s.dec.codes + 1,
        curRuns := if w.toNat + s.par.runMargin - 2 ≤ s.dec.curRuns.length then s.dec.curRuns
          else s.dec.curRuns ++ [s.dec.runAcc + (a1 - max s.dec.a0 0).toNat],
        overflow := s.dec.overflow || decide (w.toNat + s.par.runMargin - 2 ≤ s.dec.curRuns.length),
        runAcc := 0, a0 := a1, color := s.dec.color.flip } = .next d →
      exec x.1 s = .next (s.withDec { d with eolCount := 0 })) ∧
    (∀ b2 : Nat, b2 = b2Of (expand s.dec.refRuns w.toNat) s.dec.a0 s.dec.color → max s.dec.a0 0 ≤ b2 →
      s.dec.rowLen + (b2 - max s.dec.a0 0).toNat < 2 ^ 31 → w.toNat ≤ b2 ∨ 2 * w.toNat + 2 ≤ s.dec.codes + 1 →
      Dec.commitRow (rxPageOf s .t6 w) { s.dec with
        win := s.dec.win >>> 1, winCount := s.dec.winCount - 1, skip := 3, bitsInRow := s.dec.bitsInRow + 4,
        codes := s.dec.codes + 1, runAcc := s.dec.runAcc + (b2 - max s.dec.a0 0).toNat, a0 := b2 } = .next d →
      exec .pass s = .next (s.withDec { d with eolCount := 0 })) ∧
    ∀ (n : Nat) (r : CodeRow) (runs : List Nat), whiteTermRows[n]? = some r ∨ blackTermRows[n]? = some r →
      s.dec.rowIs2d = true → s.dec.hpair = .second → s.dec.rowLen + n < 2 ^ 31 →
      runs = (if w.toNat + s.par.runMargin - 2 ≤ s.dec.curRuns.length then s.dec.curRuns
        else s.dec.curRuns ++ [s.dec.runAcc + n]) →
      w.toNat ≤ runs.sum ∨ 2 * w.toNat + 2 ≤ s.dec.codes + 1 →
      Dec.commitRow (rxPageOf s .t6 w) { s.dec with
        win := s.dec.win >>> 1, winCount := s.dec.winCount - 1, skip := (codeBits r.instr).length - 1,
        bitsInRow := s.dec.bitsInRow + (codeBits r.instr).length, codes := s.dec.codes + 1, curRuns := runs,
        overflow := s.dec.overflow || decide (w.toNat + s.par.runMargin - 2 ≤ s.dec.curRuns.length),
        runAcc := 0, color := s.dec.color.flip, hpair := .none, a0 := runs.sum } = .next d →
      exec r.instr s = .next (s.withDec { d with eolCount := 0 })

/-- The V code that reaches the width of a `T6` row (R236, R260, R262, R271, R273 to R275): here a row of the right sum,
with room in `IMG`. A VL code ends left of the width. -/
def Obligations.T6RowEndsAtItsWidth : Prop :=
  ∀ (x : Instr × Int) (s : State) (w : Word) (runs : List Nat),
    x ∈ [(.v0, 0), (.vr1, 1), (.vr2, 2), (.vr3, 3)] → InRxPage s .t6 w →
    (b1Of (expand s.dec.refRuns w.toNat) s.dec.a0 s.dec.color : Int) + x.2 = w.toNat → s.dec.a0 ≤ w.toNat →
    runs = s.dec.curRuns ++ [s.dec.runAcc + (w.toNat - max s.dec.a0 0).toNat] → runs.sum = w.toNat →
    w.toNat < 2 ^ 31 → s.dec.overflow = false → s.dec.curRuns.length < w.toNat + s.par.runMargin - 2 →
    s.dec.rows < s.dec.imgCapRows → s.dec.rows + 1 < 2 ^ 32 →
    exec x.1 s = .next (s.withDec { s.dec with
      win := s.dec.win >>> 1, winCount := s.dec.winCount - 1, skip := (codeBits x.1).length - 1,
      eolCount := 0, a0 := -1, color := .white, runAcc := 0, hpair := .none, codes := 0, overflow := false,
      curRuns := [], refRuns := runs,
      img := memWrite s.dec.img (s.dec.rows * bytesPerRow w.toNat) (pack (expand runs w.toNat)),
      rows := s.dec.rows + 1, bitsInRow := 0,
      page := { s.dec.page with
        longestBadRun := if 0 < s.dec.page.curBadRun then max s.dec.page.longestBadRun s.dec.page.curBadRun
          else s.dec.page.longestBadRun
        curBadRun := 0
        minRowBits := some (match s.dec.page.minRowBits with
          | none => s.dec.bitsInRow + (codeBits x.1).length
          | some b => min b (s.dec.bitsInRow + (codeBits x.1).length))
        maxRowBits := some (match s.dec.page.maxRowBits with
          | none => s.dec.bitsInRow + (codeBits x.1).length
          | some b => max b (s.dec.bitsInRow + (codeBits x.1).length)) },
      sink := s.dec.sink ++ [⟨s.dec.userData, some (pack (expand runs w.toNat)), bytesPerRow w.toNat⟩] })

/-! ## End of line and commit -/

/-- An EOL that commits nothing, the page's first one or one on an empty row (R207 to R211, R245). -/
def Obligations.EolWithoutARow : Prop :=
  ∀ (s : State) (w : Word) (x : Instr × Mode × Option Bool × Nat) (count : Int),
    x ∈ eolForms s → InRxPage s x.2.1 w → s.dec.eolCount = -1 ∨ s.dec.rowLen = 0 →
    count = (if s.dec.eolCount = -1 then 0 else s.dec.eolCount + 1) →
    exec x.1 s = .next (s.withDec { s.dec with
      win := s.dec.win >>> x.2.2.2, winCount := s.dec.winCount - x.2.2.2, skip := 0, eolCount := count,
      complete := s.dec.complete || decide ((if x.2.1 = .t6 then 2 else 6) ≤ count),
      rowIs2d := match x.2.2.1 with | none => s.dec.rowIs2d | some tag => !tag,
      bitsInRow := x.2.2.2, curRuns := [], runAcc := 0, a0 := -1, color := .white, hpair := .none, codes := 0,
      overflow := false, trace := s.dec.trace ++ [.eol] })

/-- An EOL after a row commits it and counts as the first of its run (R207, R208, R245); the rest of the rule runs after a
commit without memory too (log 21). -/
def Obligations.EolCommitsTheRow : Prop :=
  ∀ (s : State) (w : Word) (x : Instr × Mode × Option Bool × Nat) (d : Dec),
    x ∈ eolForms s → InRxPage s x.2.1 w → s.dec.eolCount ≠ -1 → 0 < s.dec.rowLen →
    Dec.commitRow (rxPageOf s x.2.1 w) { s.dec with
      win := s.dec.win >>> x.2.2.2, winCount := s.dec.winCount - x.2.2.2, skip := 0 } = .next d →
    exec x.1 s = .next (s.withDec { d with
      eolCount := 1, rowIs2d := match x.2.2.1 with | none => s.dec.rowIs2d | some tag => !tag,
      bitsInRow := x.2.2.2, trace := s.dec.trace ++ [.eol] }) ∧ d.complete = s.dec.complete

/-- A good row is stored (R260 to R262, R270, R271, R273 to R275), where `IMG` has room. -/
def Obligations.CommitStoresAGoodRow : Prop :=
  ∀ (pg : RxPage) (d : Dec) (runs : List Nat),
    runs = (if 0 < d.runAcc then d.curRuns ++ [d.runAcc] else d.curRuns) → runs.sum = pg.w → pg.w < 2 ^ 31 →
    d.overflow = false → (0 < d.runAcc → d.curRuns.length < pg.runsCap - 2) → d.rows < d.imgCapRows →
    d.rows + 1 < 2 ^ 32 →
    d.commitRow pg = .next { d with
      img := memWrite d.img (d.rows * bytesPerRow pg.w) (pack (expand runs pg.w)),
      refRuns := runs, rows := d.rows + 1, bitsInRow := 0,
      page := { d.page with
        longestBadRun := if 0 < d.page.curBadRun then max d.page.longestBadRun d.page.curBadRun
          else d.page.longestBadRun
        curBadRun := 0
        minRowBits := some (match d.page.minRowBits with | none => d.bitsInRow | some b => min b d.bitsInRow)
        maxRowBits := some (match d.page.maxRowBits with | none => d.bitsInRow | some b => max b d.bitsInRow) },
      sink := d.sink ++ [⟨d.userData, some (pack (expand runs pg.w)), bytesPerRow pg.w⟩],
      curRuns := [], runAcc := 0, a0 := -1, color := .white, hpair := .none, codes := 0, overflow := false }

/-- A bad row stores the previous row's bytes, or white, and leaves its patched runs as the reference (R260, R261, R263,
R269 to R271, R278), where `IMG` has room: a row of the wrong sum, one that overflowed before, or one whose open run meets a
full RunArray, which discards it (R215, R216). -/
def Obligations.CommitSubstitutesABadRow : Prop :=
  ∀ (pg : RxPage) (d : Dec) (runs : List Nat) (data : List Byte),
    runs = (if 0 < d.runAcc ∧ d.curRuns.length < pg.runsCap - 2 then d.curRuns ++ [d.runAcc] else d.curRuns) →
    d.runAcc < 2 ^ 31 → (0 < d.runAcc → d.curRuns.length < pg.runsCap - 2 → runs.sum < 2 ^ 31) →
    runs.sum ≠ pg.w ∨ d.overflow = true ∨ (0 < d.runAcc ∧ pg.runsCap - 2 ≤ d.curRuns.length) →
    d.rows < d.imgCapRows → d.rows + 1 < 2 ^ 32 → data.length = bytesPerRow pg.w →
    (0 < d.rows → ∀ i < bytesPerRow pg.w, readByte d.img ((d.rows - 1) * bytesPerRow pg.w + i) = data[i]?) →
    (d.rows = 0 → data = List.replicate (bytesPerRow pg.w) 0) →
    d.commitRow pg = .next { d with
      img := memWrite d.img (d.rows * bytesPerRow pg.w) data,
      refRuns := patchRuns pg.w runs, rows := d.rows + 1, bitsInRow := 0,
      page := { d.page with
        badRows := d.page.badRows + 1
        curBadRun := d.page.curBadRun + 1
        minRowBits := some (match d.page.minRowBits with | none => d.bitsInRow | some b => min b d.bitsInRow)
        maxRowBits := some (match d.page.maxRowBits with | none => d.bitsInRow | some b => max b d.bitsInRow) },
      sink := d.sink ++ [⟨d.userData, some data, bytesPerRow pg.w⟩],
      curRuns := [], runAcc := 0, a0 := -1, color := .white, hpair := .none, codes := 0, overflow := false }

/-- Growth happens in fixed increments (R81, R272): granted, the commit goes on with more room and the same rows; refused, it
does nothing but record it. -/
def Obligations.CommitGrowsOrFails : Prop :=
  ∀ (pg : RxPage) (d : Dec) (ok : Bool) (rest : List Bool), d.rows = d.imgCapRows → d.alloc.script = ok :: rest →
    1 ≤ pg.imgGrow →
    d.commitRow pg =
      if ok then Dec.commitRow pg { d with
        alloc := ⟨rest, d.alloc.draws + 1⟩, imgCapRows := d.imgCapRows + pg.imgGrow }
      else .next { d with alloc := ⟨rest, d.alloc.draws + 1⟩, nomem := true }

/-- The patch of a bad row makes its runs sum to `W` (R263), case by case (R264 to R268). -/
def Obligations.PatchMakesTheWidth : Prop :=
  ∀ (w : Nat) (runs : List Nat),
    (patchRuns w runs).sum = w ∧
    (runs.sum = w → patchRuns w runs = runs) ∧
    (runs = [] → 0 < w → patchRuns w runs = [w]) ∧
    (∀ (front : List Nat) (r : Nat), runs = front ++ [r] → runs.sum < w →
      (front.length % 2 = 1 → patchRuns w runs = front ++ [r + (w - runs.sum)]) ∧
      (front.length % 2 = 0 → patchRuns w runs =
        runs ++ (if w - runs.sum = 1 then [1] else [1, w - runs.sum - 1]))) ∧
    ∀ (front : List Nat) (r : Nat) (back : List Nat), runs = front ++ r :: back → w < runs.sum → front.sum < w →
      w ≤ front.sum + r → patchRuns w runs = front ++ [w - front.sum]

/-- Committed rows stay as they are: no receive instruction but INIT and RELEASE changes a byte below the committed rows
(R71, R276). -/
def Obligations.CommittedRowsAreNeverRewritten : Prop :=
  ∀ (i : Instr) (s t : State) (w : Word), exec i s = .next t → i ≠ .rxInit → i ≠ .rxRelease →
    s.dec.pcfg.width = some w →
    ∀ a < s.dec.rows * bytesPerRow w.toNat, readByte t.dec.img a = readByte s.dec.img a

/-- A code word stores nothing, or one row (R276): with the row count unchanged, `IMG` and the reference are unchanged; else
one row is added, and every byte outside it reads as before. -/
def Obligations.CodeWordsStoreAtMostOneRow : Prop :=
  ∀ (i : Instr) (s t : State) (m : Mode) (w : Word), isCodeWord i = true → InRxPage s m w → exec i s = .next t →
    (t.dec.rows = s.dec.rows ∧ t.dec.img = s.dec.img ∧ t.dec.refRuns = s.dec.refRuns ∧ t.dec.sink = s.dec.sink) ∨
    (t.dec.rows = s.dec.rows + 1 ∧ t.dec.refRuns.sum = w.toNat ∧
      (∃ data, data.length = bytesPerRow w.toNat ∧
        t.dec.sink = s.dec.sink ++ [⟨s.dec.userData, some data, bytesPerRow w.toNat⟩] ∧
        ∀ j < bytesPerRow w.toNat, readByte t.dec.img (s.dec.rows * bytesPerRow w.toNat + j) = data[j]?) ∧
      ∀ a, a < s.dec.rows * bytesPerRow w.toNat ∨ (s.dec.rows + 1) * bytesPerRow w.toNat ≤ a →
        readByte t.dec.img a = readByte s.dec.img a)

/-! ## Delivery -/

/-- TX_GET_BIT (R291, R109, R187, R295): a bit that is there, stored or waiting, and the end of the data. Where the bit is not
there, one row pull (R177) comes first; where it is the last one so far, a pull says whether the page goes on. -/
def Obligations.GetBitDelivers : Prop :=
  ∀ (s : State) (m : Mode) (w b : Word), InTxPage s m w b →
    (∀ bit : Bool,
      (s.enc.outPos < 8 * s.enc.outBytes ∧
        ∃ v, readByte s.enc.out (s.enc.outPos / 8) = some v ∧ bit = v.getLsbD (s.enc.outPos % 8)) ∨
      (8 * s.enc.outBytes ≤ s.enc.outPos ∧ bit = s.enc.acc.getLsbD (s.enc.outPos - 8 * s.enc.outBytes)) →
      (s.enc.outPos + 1 < s.enc.emitted →
        exec .txGetBit s = .next ((s.withEnc { s.enc with outPos := s.enc.outPos + 1 }).withResult
          (.bit (if bit then 1 else 0)))) ∧
      (s.enc.outPos + 1 = s.enc.emitted → s.enc.termDone = true →
        exec .txGetBit s = .next ((s.withEnc { s.enc with outPos := s.enc.outPos + 1 }).withResult
          (.bit (if bit then 3 else 2)))) ∧
      (s.enc.outPos + 1 = s.enc.emitted → s.enc.termDone = false →
        exec .txGetBit s =
          andThen (Enc.encodeNextRow (txPageOf s m w b) { s.enc with outPos := s.enc.outPos + 1 }) fun e =>
            .next ((s.withEnc e).withResult
              (.bit ((if bit then 1 else 0) ||| (if e.emitted ≤ s.enc.outPos + 1 then 2 else 0)))))) ∧
    (s.enc.emitted ≤ s.enc.outPos → s.enc.termDone = true →
      exec .txGetBit s = .next (s.withResult (.bit (if s.enc.nomem ∨ s.enc.rowReadError then 12 else 4)))) ∧
    (1 ≤ w.toNat → s.enc.emitted ≤ s.enc.outPos → s.enc.termDone = false →
      exec .txGetBit s = andThen (s.enc.encodeNextRow (txPageOf s m w b)) fun e => exec .txGetBit (s.withEnc e))

/-- TX_GET_BYTE (R292, R109, R187, R295, R72): a stored byte, and the end of the data. Where the byte is not whole, one row
pull (R177) comes first; where it is the last one so far, a pull says whether the page goes on. -/
def Obligations.GetByteDelivers : Prop :=
  ∀ (s : State) (m : Mode) (w b : Word), InTxPage s m w b → s.enc.outPos % 8 = 0 →
    (∀ v : Byte, readByte s.enc.out (s.enc.outPos / 8) = some v → s.enc.outPos + 8 ≤ 8 * s.enc.outBytes →
      (s.enc.outPos + 8 < s.enc.emitted →
        exec .txGetByte s = .next ((s.withEnc { s.enc with outPos := s.enc.outPos + 8 }).withResult
          (.byte (v.setWidth 11)))) ∧
      (s.enc.outPos + 8 = s.enc.emitted → s.enc.termDone = true →
        exec .txGetByte s = .next ((s.withEnc { s.enc with outPos := s.enc.outPos + 8 }).withResult
          (.byte (v.setWidth 11 ||| 0x100#11)))) ∧
      (s.enc.outPos + 8 = s.enc.emitted → s.enc.termDone = false →
        exec .txGetByte s =
          andThen (Enc.encodeNextRow (txPageOf s m w b) { s.enc with outPos := s.enc.outPos + 8 }) fun e =>
            .next ((s.withEnc e).withResult
              (.byte (v.setWidth 11 ||| (if e.emitted ≤ s.enc.outPos + 8 then 0x100#11 else 0#11)))))) ∧
    (s.enc.emitted ≤ s.enc.outPos → s.enc.termDone = true →
      exec .txGetByte s =
        .next (s.withResult (.byte (if s.enc.nomem ∨ s.enc.rowReadError then 0x600#11 else 0x200#11)))) ∧
    (1 ≤ w.toNat → s.enc.emitted ≤ s.enc.outPos + 7 → s.enc.termDone = false →
      exec .txGetByte s = andThen (s.enc.encodeNextRow (txPageOf s m w b)) fun e => exec .txGetByte (s.withEnc e))

/-- TX_GET_CHUNK (R293, R109, R187, R295): stored bytes into the host buffer, the chunk that the end of the page cuts short,
and the end of the data. Where its next byte is not whole, one row pull (R177) comes first; a byte that is stored is
delivered, and the chunk goes on behind it. -/
def Obligations.GetChunkDelivers : Prop :=
  ∀ (s : State) (m : Mode) (w b maxLen : Word) (buf bytes : List Byte), InTxPage s m w b → s.enc.outPos % 8 = 0 →
    maxLen.toNat < 2 ^ 31 → maxLen.toNat ≤ buf.length →
    (bytes.length = maxLen.toNat → s.enc.outPos + 8 * maxLen.toNat ≤ 8 * s.enc.outBytes →
      (∀ i < maxLen.toNat, readByte s.enc.out (s.enc.outPos / 8 + i) = bytes[i]?) →
      exec (.txGetChunk maxLen buf) s =
        .next ((s.withEnc { s.enc with outPos := s.enc.outPos + 8 * maxLen.toNat }).withResult
          (.chunk maxLen (bytes ++ buf.drop maxLen.toNat)))) ∧
    (bytes.length < maxLen.toNat → s.enc.emitted = s.enc.outPos + 8 * bytes.length →
      s.enc.emitted = 8 * s.enc.outBytes → s.enc.termDone = true →
      (∀ i < bytes.length, readByte s.enc.out (s.enc.outPos / 8 + i) = bytes[i]?) →
      exec (.txGetChunk maxLen buf) s =
        .next ((s.withEnc { s.enc with outPos := s.enc.emitted }).withResult
          (.chunk (BitVec.ofNat 32 bytes.length |||
              (if s.enc.nomem ∨ s.enc.rowReadError then 0x80000000#32 else 0#32))
            (bytes ++ buf.drop bytes.length)))) ∧
    (0 < maxLen.toNat → s.enc.emitted ≤ s.enc.outPos → s.enc.termDone = true →
      exec (.txGetChunk maxLen buf) s =
        .next (s.withResult (.chunk (if s.enc.nomem ∨ s.enc.rowReadError then 0x80000000#32 else 0#32) buf))) ∧
    (1 ≤ w.toNat → 0 < maxLen.toNat → s.enc.emitted ≤ s.enc.outPos + 7 → s.enc.termDone = false →
      exec (.txGetChunk maxLen buf) s =
        andThen (s.enc.encodeNextRow (txPageOf s m w b)) fun e => exec (.txGetChunk maxLen buf) (s.withEnc e)) ∧
    ∀ (v x : Byte) (rest : List Byte) (t : State) (c : Word) (out : List Byte), buf = x :: rest → 0 < maxLen.toNat →
      readByte s.enc.out (s.enc.outPos / 8) = some v → s.enc.outPos + 8 ≤ 8 * s.enc.outBytes →
      exec (.txGetChunk (maxLen - 1) rest) (s.withEnc { s.enc with outPos := s.enc.outPos + 8 }) = .next t →
      t.host.result = some (.chunk c out) →
      exec (.txGetChunk maxLen buf) s = .next (t.withResult (.chunk (c + 1) (v :: out)))

/-! ## Production -/

/-- `emit` appends its bits to the page bitstream, or ends the page (R141, R140, R82): the bits before stay, the new ones
follow, and the row's count rises by their number. -/
def Obligations.EmitAppendsToTheBitstream : Prop :=
  ∀ (p : Params) (e : Enc) (grow : Nat) (bits : List Bool), EncInv p e → 1 ≤ grow →
    ((e.emit grow bits).nomem = false →
      (e.emit grow bits).emitted = e.emitted + bits.length ∧
      (e.emit grow bits).rowBits = e.rowBits + bits.length ∧
      (∀ k < e.emitted, (e.emit grow bits).streamBit k = e.streamBit k) ∧
      ∀ (j : Nat) (h : j < bits.length), (e.emit grow bits).streamBit (e.emitted + j) = .next bits[j]) ∧
    ((e.emit grow bits).nomem = true →
      (e.emit grow bits).accBits = 0 ∧ (e.emit grow bits).rowBits = e.rowBits ∧
      ∀ k < 8 * e.outBytes, (e.emit grow bits).streamBit k = e.streamBit k)

/-- A growth of `OUT` that fails loses the byte and ends the page, and nothing is emitted after it (R141, R82, R186). -/
def Obligations.FailedGrowthEndsThePage : Prop :=
  ∀ (e : Enc) (grow : Nat) (b : Bool) (bits rest : List Bool),
    (e.nomem = false → e.accBits = 7 → e.outBytes = e.outCap → e.alloc.script.head? = some false →
      e.alloc.script.tail = rest →
      e.emit grow (b :: bits) =
        { e with nomem := true, acc := 0, accBits := 0, alloc := ⟨rest, e.alloc.draws + 1⟩ }) ∧
    (e.nomem = true → e.emit grow bits = e)

/-- One pull of a row appends the row's frame, code words and fill to the page bitstream (R169 to R175, R177 to R180); the
row's runs become the reference, and `cur_runs` starts the next row empty (R84). -/
def Obligations.PulledRowIsAppended : Prop :=
  ∀ (p : Params) (pg : TxPage) (e t : Enc) (row : List Byte) (rest : List RowAnswer) (is2d : Bool)
    (bits fill : List Bool),
    EncInv p e → 1 ≤ pg.outGrow → 1 ≤ pg.w → e.source.script = ⟨bytesPerRow pg.w, row⟩ :: rest →
    row.length = bytesPerRow pg.w → e.encodeNextRow pg = .next t → t.nomem = false →
    is2d = (match pg.mode with | .t41d => false | .t42d => e.rowsTo1d != 0 | .t6 => true) →
    bits = (match pg.mode with
        | .t41d => List.replicate 11 false ++ [true]
        | .t42d => List.replicate 11 false ++ [true, !is2d]
        | .t6 => []) ++
      (if is2d then codes2d (unpack row pg.w) (expand e.refRuns pg.w)
        else codes1d (runLengthsOfRow row pg.w)).flatMap codeBits →
    fill = (if pg.mode = .t6 then [] else List.replicate (pg.minRowBits - bits.length) false) →
    t.emitted = e.emitted + (bits ++ fill).length ∧
    (∀ k < e.emitted, t.streamBit k = e.streamBit k) ∧
    (∀ (j : Nat) (h : j < (bits ++ fill).length), t.streamBit (e.emitted + j) = .next (bits ++ fill)[j]) ∧
    t.rowsTo1d = (match pg.mode with
      | .t42d => if e.rowsTo1d = 0 then pg.k - 1 else e.rowsTo1d - 1
      | _ => e.rowsTo1d) ∧
    t.rowBits = (bits ++ fill).length ∧ t.rows = e.rows + 1 ∧ t.refRuns = runLengthsOfRow row pg.w ∧ t.curRuns = [] ∧
    t.page = { e.page with
      minRowBits := some (match e.page.minRowBits with
        | none => (bits ++ fill).length | some b => min b (bits ++ fill).length)
      maxRowBits := some (match e.page.maxRowBits with
        | none => (bits ++ fill).length | some b => max b (bits ++ fill).length) } ∧
    t.source = { e.source with script := rest, calls := e.source.calls + 1 } ∧ t.reads = e.reads ++ [⟨e.userData, bytesPerRow pg.w⟩] ∧
    t.outPos = e.outPos ∧ t.termDone = e.termDone

/-- A pull that meets the page's end, or a read error, appends the terminator and the padding (R177, R181 to R185). -/
def Obligations.PulledEndTerminatesThePage : Prop :=
  ∀ (p : Params) (pg : TxPage) (e : Enc) (a : RowAnswer) (rest : List RowAnswer) (term : List Bool),
    EncInv p e → 1 ≤ pg.outGrow → e.source.script = a :: rest → a.count ≤ 0 →
    term = (match pg.mode with
      | .t41d => (List.replicate 6 (List.replicate 11 false ++ [true])).flatten
      | .t42d => (List.replicate 6 (List.replicate 11 false ++ [true, true])).flatten
      | .t6 => (List.replicate 2 (List.replicate 11 false ++ [true])).flatten) →
    ∃ t, e.encodeNextRow pg = .next t ∧ t.srcDone = true ∧ t.termDone = true ∧ t.accBits = 0 ∧ t.rows = e.rows ∧
      t.rowReadError = (e.rowReadError || decide (a.count < 0)) ∧ t.source = { e.source with script := rest, calls := e.source.calls + 1 } ∧
      (t.nomem = false →
        t.emitted = (e.emitted + term.length + 7) / 8 * 8 ∧
        (∀ k < e.emitted, t.streamBit k = e.streamBit k) ∧
        (∀ (j : Nat) (h : j < term.length), t.streamBit (e.emitted + j) = .next term[j]) ∧
        ∀ k, e.emitted + term.length ≤ k → k < t.emitted → t.streamBit k = .next false)

/-- `ensure(k)` makes stream bit `k` available, unless the page has ended (R187, R315). What a GET command pulls on the way
is appended: the bytes stored before stay, the cursor moves forward only, and the lifecycle and the opaque host value stay. -/
def Obligations.EnsureMakesTheBitAvailable : Prop :=
  (∀ (p : Params) (pg : TxPage) (k : Nat) (e t : Enc), EncInv p e → 1 ≤ pg.outGrow → 1 ≤ pg.w →
    e.ensure pg k = .next t → k < t.emitted ∨ t.termDone = true) ∧
  ∀ (i : Instr) (s t : State), exec i s = .next t →
    (i = .txGetBit ∨ i = .txGetByte ∨ ∃ maxLen buf, i = .txGetChunk maxLen buf) →
    t.enc.life = s.enc.life ∧ t.enc.userData = s.enc.userData ∧ s.enc.outPos ≤ t.enc.outPos ∧
    s.enc.outBytes ≤ t.enc.outBytes ∧ s.enc.rows ≤ t.enc.rows ∧
    ∀ a < s.enc.outBytes, readByte t.enc.out a = readByte s.enc.out a

/-- The make-up decomposition of a run is fixed (R161). -/
def Obligations.MakeupTieringIsFixed : Prop :=
  ∀ (color : Color) (n : Nat),
    runCodes color n =
      List.replicate (n / 2560) .xm2560 ++
      (if 64 ≤ n % 2560 then
        (if n % 2560 / 64 ≤ 27 then
          ((match color with | .white => whiteMakeupRows | .black => blackMakeupRows)[n % 2560 / 64 - 1]?).toList
        else (extMakeupRows[n % 2560 / 64 - 28]?).toList).map CodeRow.instr
      else []) ++
      (((match color with | .white => whiteTermRows | .black => blackTermRows)[n % 64]?).toList).map CodeRow.instr

/-- The K countdown (R175): a row is 1D when the countdown is 0, and of a page's rows exactly every K-th one is 1D. -/
def Obligations.EveryKthRowIsOneDimensional : Prop :=
  ∀ k : Nat, 1 ≤ k →
    countdown k 0 = (false, k - 1) ∧ (∀ n, countdown k (n + 1) = (true, n)) ∧
    ∀ row : Nat, (countdown k ((fun c => (countdown k c).2)^[row] 0)).1 = decide (row % k ≠ 0)

/-- The encoder tries Pass, then Vertical, then Horizontal (R163 to R167, R105). -/
def Obligations.ModesAreTriedInOrder : Prop :=
  ∀ (fuel : Nat) (cur ref : List Color) (a0 : Int) (color : Color) (a1 a2 b1 b2 : Nat), a0 < cur.length →
    a1 = nextChange cur a0 → a2 = nextChange cur a1 → b1 = b1Of ref a0 color → b2 = b2Of ref a0 color →
    (b2 < a1 → codes2dLoop (fuel + 1) cur ref a0 color = .pass :: codes2dLoop fuel cur ref b2 color) ∧
    (a1 ≤ b2 →
      (∀ x ∈ [((0 : Int), Instr.v0), (1, .vr1), (2, .vr2), (3, .vr3), (-1, .vl1), (-2, .vl2), (-3, .vl3)],
        (a1 : Int) - b1 = x.1 →
        codes2dLoop (fuel + 1) cur ref a0 color = x.2 :: codes2dLoop fuel cur ref a1 color.flip) ∧
      (3 < ((a1 : Int) - b1).natAbs → codes2dLoop (fuel + 1) cur ref a0 color =
        .horiz :: runCodes color (a1 - (max a0 0).toNat) ++ runCodes color.flip (a2 - a1) ++
          codes2dLoop fuel cur ref a2 color))

/-! ## Rows and round trips -/

/-- The scanner is exact (R120, R121, R124): its runs sum to the width, only the first can be 0, there are at most `W + 1`,
and they expand to the row's pixels; packing and unpacking are inverse, with pad bits 0 (R123, R79). -/
def Obligations.ScannerIsExact : Prop :=
  (∀ (row : List Byte) (w : Nat),
    (runLengthsOfRow row w).sum = w ∧ (∀ r ∈ (runLengthsOfRow row w).tail, 1 ≤ r) ∧
    (runLengthsOfRow row w).length ≤ w + 1 ∧ expand (runLengthsOfRow row w) w = unpack row w) ∧
  ∀ px : List Color,
    (pack px).length = (px.length + 7) / 8 ∧ unpack (pack px) px.length = px ∧
    ∀ i, px.length ≤ i → i < 8 * ((px.length + 7) / 8) → ((pack px).getD (i / 8) 0).getLsbD (7 - i % 8) = false

/-- The elements of the two-dimensional code are the nearest changing elements of their kind (R125, R126, R128). -/
def Obligations.ChangingElementsAreNearest : Prop :=
  ∀ (px : List Color) (p : Int) (color : Color) (change : Nat → Prop),
    (∀ i, change i ↔ i < px.length ∧ px[i]? ≠ (if i = 0 then some .white else px[i - 1]?)) →
    ((nextChange px p < px.length → change (nextChange px p) ∧ p < nextChange px p) ∧ nextChange px p ≤ px.length ∧
      ∀ i, change i → p < i → nextChange px p ≤ i) ∧
    ((b1Of px p color < px.length →
        change (b1Of px p color) ∧ p < b1Of px p color ∧ px[b1Of px p color]? ≠ some color) ∧
      b1Of px p color ≤ px.length ∧ ∀ i, change i → p < i → px[i]? ≠ some color → b1Of px p color ≤ i) ∧
    (b1Of px p color < px.length → b2Of px p color = nextChange px (b1Of px p color)) ∧
    (b1Of px p color = px.length → b2Of px p color = px.length)

/-- A row coded in one dimension decodes to itself (R162, R230 to R234, R17): running its code words on a decoder at the
start of a 1D row rebuilds the row's runs, each word in its context. -/
def Obligations.OneDimensionalRoundTrip : Prop :=
  ∀ (s : State) (m : Mode) (w : Word) (px : List Color), InRxPage s m w → 4 ≤ s.par.runMargin →
    px.length = w.toNat → w.toNat < 2 ^ 31 → s.dec.rowIs2d = false → s.dec.curRuns = [] → s.dec.runAcc = 0 →
    s.dec.color = .white →
    ∃ t, readAll (codes1d (runsOf px)) s = .next t ∧ t.dec.curRuns = runsOf px ∧ t.dec.runAcc = 0 ∧
      t.dec.overflow = s.dec.overflow ∧ t.dec.rows = s.dec.rows ∧ t.dec.refRuns = s.dec.refRuns

/-- A row coded in two dimensions decodes to itself (R163 to R167, R213 to R225, R235, R17): running its code words on a
decoder at the start of a 2D row, with the same reference, rebuilds the row's pixels, each word in its context. In `T4_2D`
the row then waits for its EOL; in `T6` its last code word commits it, as a good row, and the backstop comes no earlier
(R236, R237, R260, R262, R271, R274), here where `IMG` has room. -/
def Obligations.TwoDimensionalRoundTrip : Prop :=
  ∀ (s : State) (m : Mode) (w : Word) (px : List Color), InRxPage s m w → 4 ≤ s.par.runMargin → px.length = w.toNat →
    w.toNat < 2 ^ 31 → s.dec.rowIs2d = true → s.dec.curRuns = [] → s.dec.runAcc = 0 → s.dec.a0 = -1 →
    s.dec.color = .white → s.dec.hpair = .none →
    (m = .t42d → ∃ t, readAll (codes2d px (expand s.dec.refRuns w.toNat)) s = .next t ∧
      t.dec.curRuns.sum = w.toNat ∧ expand t.dec.curRuns w.toNat = px ∧ t.dec.runAcc = 0 ∧
      t.dec.overflow = s.dec.overflow ∧ t.dec.hpair = .none ∧ t.dec.rows = s.dec.rows ∧
      t.dec.refRuns = s.dec.refRuns) ∧
    (m = .t6 → 1 ≤ w.toNat → s.dec.codes = 0 → s.dec.overflow = false → s.dec.rows < s.dec.imgCapRows →
      s.dec.rows + 1 < 2 ^ 32 →
      ∃ t, readAll (codes2d px (expand s.dec.refRuns w.toNat)) s = .next t ∧ t.dec.rows = s.dec.rows + 1 ∧
        t.dec.img = memWrite s.dec.img (s.dec.rows * bytesPerRow w.toNat) (pack px) ∧
        t.dec.sink = s.dec.sink ++ [⟨s.dec.userData, some (pack px), bytesPerRow w.toNat⟩] ∧
        t.dec.refRuns.sum = w.toNat ∧ expand t.dec.refRuns w.toNat = px ∧ t.dec.page.badRows = s.dec.page.badRows ∧
        t.dec.eolCount = 0 ∧ t.dec.curRuns = [] ∧ t.dec.runAcc = 0 ∧ t.dec.a0 = -1 ∧ t.dec.color = .white ∧
        t.dec.hpair = .none ∧ t.dec.codes = 0 ∧ t.dec.overflow = false)
end

