-- ==== Sys2Proof/Laws/State.lean ====
section
/-! SUPPORT. One lemma per field for each record update of the machine, so that no proof unfolds one. -/

namespace Sys2Proof.Machine

/-! `State` -/

@[simp] theorem State.withEnc_par (s : State) (e : Enc) : (s.withEnc e).par = s.par := rfl
@[simp] theorem State.withEnc_enc (s : State) (e : Enc) : (s.withEnc e).enc = e := rfl
@[simp] theorem State.withEnc_dec (s : State) (e : Enc) : (s.withEnc e).dec = s.dec := rfl
@[simp] theorem State.withEnc_host (s : State) (e : Enc) : (s.withEnc e).host = s.host := rfl
@[simp] theorem State.withDec_par (s : State) (d : Dec) : (s.withDec d).par = s.par := rfl
@[simp] theorem State.withDec_enc (s : State) (d : Dec) : (s.withDec d).enc = s.enc := rfl
@[simp] theorem State.withDec_dec (s : State) (d : Dec) : (s.withDec d).dec = d := rfl
@[simp] theorem State.withDec_host (s : State) (d : Dec) : (s.withDec d).host = s.host := rfl
@[simp] theorem State.withResult_par (s : State) (r : CmdResult) : (s.withResult r).par = s.par := rfl
@[simp] theorem State.withResult_enc (s : State) (r : CmdResult) : (s.withResult r).enc = s.enc := rfl
@[simp] theorem State.withResult_dec (s : State) (r : CmdResult) : (s.withResult r).dec = s.dec := rfl
@[simp] theorem State.withResult_host (s : State) (r : CmdResult) : (s.withResult r).host = ⟨s.host.queue, some r⟩ := rfl
@[simp] theorem State.withQueue_par (s : State) (q : List Command) : (s.withQueue q).par = s.par := rfl
@[simp] theorem State.withQueue_enc (s : State) (q : List Command) : (s.withQueue q).enc = s.enc := rfl
@[simp] theorem State.withQueue_dec (s : State) (q : List Command) : (s.withQueue q).dec = s.dec := rfl
@[simp] theorem State.withQueue_host (s : State) (q : List Command) : (s.withQueue q).host = ⟨q, s.host.result⟩ := rfl

/-! `Dec.drop` -/

@[simp] theorem Dec.drop_life (d : Dec) (n : Nat) : (d.drop n).life = d.life := rfl
@[simp] theorem Dec.drop_cfg (d : Dec) (n : Nat) : (d.drop n).cfg = d.cfg := rfl
@[simp] theorem Dec.drop_pcfg (d : Dec) (n : Nat) : (d.drop n).pcfg = d.pcfg := rfl
@[simp] theorem Dec.drop_win (d : Dec) (n : Nat) : (d.drop n).win = d.win >>> n := rfl
@[simp] theorem Dec.drop_winCount (d : Dec) (n : Nat) : (d.drop n).winCount = d.winCount - n := rfl
@[simp] theorem Dec.drop_skip (d : Dec) (n : Nat) : (d.drop n).skip = d.skip := rfl
@[simp] theorem Dec.drop_eolCount (d : Dec) (n : Nat) : (d.drop n).eolCount = d.eolCount := rfl
@[simp] theorem Dec.drop_complete (d : Dec) (n : Nat) : (d.drop n).complete = d.complete := rfl
@[simp] theorem Dec.drop_rowIs2d (d : Dec) (n : Nat) : (d.drop n).rowIs2d = d.rowIs2d := rfl
@[simp] theorem Dec.drop_a0 (d : Dec) (n : Nat) : (d.drop n).a0 = d.a0 := rfl
@[simp] theorem Dec.drop_color (d : Dec) (n : Nat) : (d.drop n).color = d.color := rfl
@[simp] theorem Dec.drop_runAcc (d : Dec) (n : Nat) : (d.drop n).runAcc = d.runAcc := rfl
@[simp] theorem Dec.drop_hpair (d : Dec) (n : Nat) : (d.drop n).hpair = d.hpair := rfl
@[simp] theorem Dec.drop_codes (d : Dec) (n : Nat) : (d.drop n).codes = d.codes := rfl
@[simp] theorem Dec.drop_curRuns (d : Dec) (n : Nat) : (d.drop n).curRuns = d.curRuns := rfl
@[simp] theorem Dec.drop_refRuns (d : Dec) (n : Nat) : (d.drop n).refRuns = d.refRuns := rfl
@[simp] theorem Dec.drop_img (d : Dec) (n : Nat) : (d.drop n).img = d.img := rfl
@[simp] theorem Dec.drop_rows (d : Dec) (n : Nat) : (d.drop n).rows = d.rows := rfl
@[simp] theorem Dec.drop_imgCapRows (d : Dec) (n : Nat) : (d.drop n).imgCapRows = d.imgCapRows := rfl
@[simp] theorem Dec.drop_nomem (d : Dec) (n : Nat) : (d.drop n).nomem = d.nomem := rfl
@[simp] theorem Dec.drop_invalid (d : Dec) (n : Nat) : (d.drop n).invalid = d.invalid := rfl
@[simp] theorem Dec.drop_bitsInRow (d : Dec) (n : Nat) : (d.drop n).bitsInRow = d.bitsInRow := rfl
@[simp] theorem Dec.drop_pageBits (d : Dec) (n : Nat) : (d.drop n).pageBits = d.pageBits := rfl
@[simp] theorem Dec.drop_overflow (d : Dec) (n : Nat) : (d.drop n).overflow = d.overflow := rfl
@[simp] theorem Dec.drop_page (d : Dec) (n : Nat) : (d.drop n).page = d.page := rfl
@[simp] theorem Dec.drop_stats (d : Dec) (n : Nat) : (d.drop n).stats = d.stats := rfl
@[simp] theorem Dec.drop_alloc (d : Dec) (n : Nat) : (d.drop n).alloc = d.alloc := rfl
@[simp] theorem Dec.drop_sink (d : Dec) (n : Nat) : (d.drop n).sink = d.sink := rfl
@[simp] theorem Dec.drop_trace (d : Dec) (n : Nat) : (d.drop n).trace = d.trace := rfl
@[simp] theorem Dec.drop_userData (d : Dec) (n : Nat) : (d.drop n).userData = d.userData := rfl

/-! `Dec.append` -/

@[simp] theorem Dec.append_life (d : Dec) (b : Bool) : (d.append b).life = d.life := rfl
@[simp] theorem Dec.append_cfg (d : Dec) (b : Bool) : (d.append b).cfg = d.cfg := rfl
@[simp] theorem Dec.append_pcfg (d : Dec) (b : Bool) : (d.append b).pcfg = d.pcfg := rfl
@[simp] theorem Dec.append_win (d : Dec) (b : Bool) : (d.append b).win = putBit d.win d.winCount b := rfl
@[simp] theorem Dec.append_winCount (d : Dec) (b : Bool) : (d.append b).winCount = d.winCount + 1 := rfl
@[simp] theorem Dec.append_skip (d : Dec) (b : Bool) : (d.append b).skip = d.skip := rfl
@[simp] theorem Dec.append_eolCount (d : Dec) (b : Bool) : (d.append b).eolCount = d.eolCount := rfl
@[simp] theorem Dec.append_complete (d : Dec) (b : Bool) : (d.append b).complete = d.complete := rfl
@[simp] theorem Dec.append_rowIs2d (d : Dec) (b : Bool) : (d.append b).rowIs2d = d.rowIs2d := rfl
@[simp] theorem Dec.append_a0 (d : Dec) (b : Bool) : (d.append b).a0 = d.a0 := rfl
@[simp] theorem Dec.append_color (d : Dec) (b : Bool) : (d.append b).color = d.color := rfl
@[simp] theorem Dec.append_runAcc (d : Dec) (b : Bool) : (d.append b).runAcc = d.runAcc := rfl
@[simp] theorem Dec.append_hpair (d : Dec) (b : Bool) : (d.append b).hpair = d.hpair := rfl
@[simp] theorem Dec.append_codes (d : Dec) (b : Bool) : (d.append b).codes = d.codes := rfl
@[simp] theorem Dec.append_curRuns (d : Dec) (b : Bool) : (d.append b).curRuns = d.curRuns := rfl
@[simp] theorem Dec.append_refRuns (d : Dec) (b : Bool) : (d.append b).refRuns = d.refRuns := rfl
@[simp] theorem Dec.append_img (d : Dec) (b : Bool) : (d.append b).img = d.img := rfl
@[simp] theorem Dec.append_rows (d : Dec) (b : Bool) : (d.append b).rows = d.rows := rfl
@[simp] theorem Dec.append_imgCapRows (d : Dec) (b : Bool) : (d.append b).imgCapRows = d.imgCapRows := rfl
@[simp] theorem Dec.append_nomem (d : Dec) (b : Bool) : (d.append b).nomem = d.nomem := rfl
@[simp] theorem Dec.append_invalid (d : Dec) (b : Bool) : (d.append b).invalid = d.invalid := rfl
@[simp] theorem Dec.append_bitsInRow (d : Dec) (b : Bool) : (d.append b).bitsInRow = d.bitsInRow := rfl
@[simp] theorem Dec.append_pageBits (d : Dec) (b : Bool) : (d.append b).pageBits = d.pageBits + 1 := rfl
@[simp] theorem Dec.append_overflow (d : Dec) (b : Bool) : (d.append b).overflow = d.overflow := rfl
@[simp] theorem Dec.append_page (d : Dec) (b : Bool) : (d.append b).page = d.page := rfl
@[simp] theorem Dec.append_stats (d : Dec) (b : Bool) : (d.append b).stats = d.stats := rfl
@[simp] theorem Dec.append_alloc (d : Dec) (b : Bool) : (d.append b).alloc = d.alloc := rfl
@[simp] theorem Dec.append_sink (d : Dec) (b : Bool) : (d.append b).sink = d.sink := rfl
@[simp] theorem Dec.append_trace (d : Dec) (b : Bool) : (d.append b).trace = d.trace := rfl
@[simp] theorem Dec.append_userData (d : Dec) (b : Bool) : (d.append b).userData = d.userData := rfl

/-! `Dec.log` -/

@[simp] theorem Dec.log_life (d : Dec) (ev : TraceEvent) : (d.log ev).life = d.life := rfl
@[simp] theorem Dec.log_cfg (d : Dec) (ev : TraceEvent) : (d.log ev).cfg = d.cfg := rfl
@[simp] theorem Dec.log_pcfg (d : Dec) (ev : TraceEvent) : (d.log ev).pcfg = d.pcfg := rfl
@[simp] theorem Dec.log_win (d : Dec) (ev : TraceEvent) : (d.log ev).win = d.win := rfl
@[simp] theorem Dec.log_winCount (d : Dec) (ev : TraceEvent) : (d.log ev).winCount = d.winCount := rfl
@[simp] theorem Dec.log_skip (d : Dec) (ev : TraceEvent) : (d.log ev).skip = d.skip := rfl
@[simp] theorem Dec.log_eolCount (d : Dec) (ev : TraceEvent) : (d.log ev).eolCount = d.eolCount := rfl
@[simp] theorem Dec.log_complete (d : Dec) (ev : TraceEvent) : (d.log ev).complete = d.complete := rfl
@[simp] theorem Dec.log_rowIs2d (d : Dec) (ev : TraceEvent) : (d.log ev).rowIs2d = d.rowIs2d := rfl
@[simp] theorem Dec.log_a0 (d : Dec) (ev : TraceEvent) : (d.log ev).a0 = d.a0 := rfl
@[simp] theorem Dec.log_color (d : Dec) (ev : TraceEvent) : (d.log ev).color = d.color := rfl
@[simp] theorem Dec.log_runAcc (d : Dec) (ev : TraceEvent) : (d.log ev).runAcc = d.runAcc := rfl
@[simp] theorem Dec.log_hpair (d : Dec) (ev : TraceEvent) : (d.log ev).hpair = d.hpair := rfl
@[simp] theorem Dec.log_codes (d : Dec) (ev : TraceEvent) : (d.log ev).codes = d.codes := rfl
@[simp] theorem Dec.log_curRuns (d : Dec) (ev : TraceEvent) : (d.log ev).curRuns = d.curRuns := rfl
@[simp] theorem Dec.log_refRuns (d : Dec) (ev : TraceEvent) : (d.log ev).refRuns = d.refRuns := rfl
@[simp] theorem Dec.log_img (d : Dec) (ev : TraceEvent) : (d.log ev).img = d.img := rfl
@[simp] theorem Dec.log_rows (d : Dec) (ev : TraceEvent) : (d.log ev).rows = d.rows := rfl
@[simp] theorem Dec.log_imgCapRows (d : Dec) (ev : TraceEvent) : (d.log ev).imgCapRows = d.imgCapRows := rfl
@[simp] theorem Dec.log_nomem (d : Dec) (ev : TraceEvent) : (d.log ev).nomem = d.nomem := rfl
@[simp] theorem Dec.log_invalid (d : Dec) (ev : TraceEvent) : (d.log ev).invalid = d.invalid := rfl
@[simp] theorem Dec.log_bitsInRow (d : Dec) (ev : TraceEvent) : (d.log ev).bitsInRow = d.bitsInRow := rfl
@[simp] theorem Dec.log_pageBits (d : Dec) (ev : TraceEvent) : (d.log ev).pageBits = d.pageBits := rfl
@[simp] theorem Dec.log_overflow (d : Dec) (ev : TraceEvent) : (d.log ev).overflow = d.overflow := rfl
@[simp] theorem Dec.log_page (d : Dec) (ev : TraceEvent) : (d.log ev).page = d.page := rfl
@[simp] theorem Dec.log_stats (d : Dec) (ev : TraceEvent) : (d.log ev).stats = d.stats := rfl
@[simp] theorem Dec.log_alloc (d : Dec) (ev : TraceEvent) : (d.log ev).alloc = d.alloc := rfl
@[simp] theorem Dec.log_sink (d : Dec) (ev : TraceEvent) : (d.log ev).sink = d.sink := rfl
@[simp] theorem Dec.log_trace (d : Dec) (ev : TraceEvent) : (d.log ev).trace = d.trace ++ [ev] := rfl
@[simp] theorem Dec.log_userData (d : Dec) (ev : TraceEvent) : (d.log ev).userData = d.userData := rfl

/-! `Dec.rowReset` -/

@[simp] theorem Dec.rowReset_life (d : Dec) : (d.rowReset).life = d.life := rfl
@[simp] theorem Dec.rowReset_cfg (d : Dec) : (d.rowReset).cfg = d.cfg := rfl
@[simp] theorem Dec.rowReset_pcfg (d : Dec) : (d.rowReset).pcfg = d.pcfg := rfl
@[simp] theorem Dec.rowReset_win (d : Dec) : (d.rowReset).win = d.win := rfl
@[simp] theorem Dec.rowReset_winCount (d : Dec) : (d.rowReset).winCount = d.winCount := rfl
@[simp] theorem Dec.rowReset_skip (d : Dec) : (d.rowReset).skip = d.skip := rfl
@[simp] theorem Dec.rowReset_eolCount (d : Dec) : (d.rowReset).eolCount = d.eolCount := rfl
@[simp] theorem Dec.rowReset_complete (d : Dec) : (d.rowReset).complete = d.complete := rfl
@[simp] theorem Dec.rowReset_rowIs2d (d : Dec) : (d.rowReset).rowIs2d = d.rowIs2d := rfl
@[simp] theorem Dec.rowReset_a0 (d : Dec) : (d.rowReset).a0 = -1 := rfl
@[simp] theorem Dec.rowReset_color (d : Dec) : (d.rowReset).color = .white := rfl
@[simp] theorem Dec.rowReset_runAcc (d : Dec) : (d.rowReset).runAcc = 0 := rfl
@[simp] theorem Dec.rowReset_hpair (d : Dec) : (d.rowReset).hpair = .none := rfl
@[simp] theorem Dec.rowReset_codes (d : Dec) : (d.rowReset).codes = 0 := rfl
@[simp] theorem Dec.rowReset_curRuns (d : Dec) : (d.rowReset).curRuns = [] := rfl
@[simp] theorem Dec.rowReset_refRuns (d : Dec) : (d.rowReset).refRuns = d.refRuns := rfl
@[simp] theorem Dec.rowReset_img (d : Dec) : (d.rowReset).img = d.img := rfl
@[simp] theorem Dec.rowReset_rows (d : Dec) : (d.rowReset).rows = d.rows := rfl
@[simp] theorem Dec.rowReset_imgCapRows (d : Dec) : (d.rowReset).imgCapRows = d.imgCapRows := rfl
@[simp] theorem Dec.rowReset_nomem (d : Dec) : (d.rowReset).nomem = d.nomem := rfl
@[simp] theorem Dec.rowReset_invalid (d : Dec) : (d.rowReset).invalid = d.invalid := rfl
@[simp] theorem Dec.rowReset_bitsInRow (d : Dec) : (d.rowReset).bitsInRow = d.bitsInRow := rfl
@[simp] theorem Dec.rowReset_pageBits (d : Dec) : (d.rowReset).pageBits = d.pageBits := rfl
@[simp] theorem Dec.rowReset_overflow (d : Dec) : (d.rowReset).overflow = false := rfl
@[simp] theorem Dec.rowReset_page (d : Dec) : (d.rowReset).page = d.page := rfl
@[simp] theorem Dec.rowReset_stats (d : Dec) : (d.rowReset).stats = d.stats := rfl
@[simp] theorem Dec.rowReset_alloc (d : Dec) : (d.rowReset).alloc = d.alloc := rfl
@[simp] theorem Dec.rowReset_sink (d : Dec) : (d.rowReset).sink = d.sink := rfl
@[simp] theorem Dec.rowReset_trace (d : Dec) : (d.rowReset).trace = d.trace := rfl
@[simp] theorem Dec.rowReset_userData (d : Dec) : (d.rowReset).userData = d.userData := rfl

/-! `Dec.matched` -/

@[simp] theorem Dec.matched_life (d : Dec) (w : Nat) : (d.matched w).life = d.life := rfl
@[simp] theorem Dec.matched_cfg (d : Dec) (w : Nat) : (d.matched w).cfg = d.cfg := rfl
@[simp] theorem Dec.matched_pcfg (d : Dec) (w : Nat) : (d.matched w).pcfg = d.pcfg := rfl
@[simp] theorem Dec.matched_win (d : Dec) (w : Nat) : (d.matched w).win = d.win >>> 1 := rfl
@[simp] theorem Dec.matched_winCount (d : Dec) (w : Nat) : (d.matched w).winCount = d.winCount - 1 := rfl
@[simp] theorem Dec.matched_skip (d : Dec) (w : Nat) : (d.matched w).skip = w - 1 := rfl
@[simp] theorem Dec.matched_eolCount (d : Dec) (w : Nat) : (d.matched w).eolCount = d.eolCount := rfl
@[simp] theorem Dec.matched_complete (d : Dec) (w : Nat) : (d.matched w).complete = d.complete := rfl
@[simp] theorem Dec.matched_rowIs2d (d : Dec) (w : Nat) : (d.matched w).rowIs2d = d.rowIs2d := rfl
@[simp] theorem Dec.matched_a0 (d : Dec) (w : Nat) : (d.matched w).a0 = d.a0 := rfl
@[simp] theorem Dec.matched_color (d : Dec) (w : Nat) : (d.matched w).color = d.color := rfl
@[simp] theorem Dec.matched_runAcc (d : Dec) (w : Nat) : (d.matched w).runAcc = d.runAcc := rfl
@[simp] theorem Dec.matched_hpair (d : Dec) (w : Nat) : (d.matched w).hpair = d.hpair := rfl
@[simp] theorem Dec.matched_codes (d : Dec) (w : Nat) : (d.matched w).codes = d.codes := rfl
@[simp] theorem Dec.matched_curRuns (d : Dec) (w : Nat) : (d.matched w).curRuns = d.curRuns := rfl
@[simp] theorem Dec.matched_refRuns (d : Dec) (w : Nat) : (d.matched w).refRuns = d.refRuns := rfl
@[simp] theorem Dec.matched_img (d : Dec) (w : Nat) : (d.matched w).img = d.img := rfl
@[simp] theorem Dec.matched_rows (d : Dec) (w : Nat) : (d.matched w).rows = d.rows := rfl
@[simp] theorem Dec.matched_imgCapRows (d : Dec) (w : Nat) : (d.matched w).imgCapRows = d.imgCapRows := rfl
@[simp] theorem Dec.matched_nomem (d : Dec) (w : Nat) : (d.matched w).nomem = d.nomem := rfl
@[simp] theorem Dec.matched_invalid (d : Dec) (w : Nat) : (d.matched w).invalid = d.invalid := rfl
@[simp] theorem Dec.matched_bitsInRow (d : Dec) (w : Nat) : (d.matched w).bitsInRow = d.bitsInRow + w := rfl
@[simp] theorem Dec.matched_pageBits (d : Dec) (w : Nat) : (d.matched w).pageBits = d.pageBits := rfl
@[simp] theorem Dec.matched_overflow (d : Dec) (w : Nat) : (d.matched w).overflow = d.overflow := rfl
@[simp] theorem Dec.matched_page (d : Dec) (w : Nat) : (d.matched w).page = d.page := rfl
@[simp] theorem Dec.matched_stats (d : Dec) (w : Nat) : (d.matched w).stats = d.stats := rfl
@[simp] theorem Dec.matched_alloc (d : Dec) (w : Nat) : (d.matched w).alloc = d.alloc := rfl
@[simp] theorem Dec.matched_sink (d : Dec) (w : Nat) : (d.matched w).sink = d.sink := rfl
@[simp] theorem Dec.matched_trace (d : Dec) (w : Nat) : (d.matched w).trace = d.trace := rfl
@[simp] theorem Dec.matched_userData (d : Dec) (w : Nat) : (d.matched w).userData = d.userData := rfl

/-! `Dec.matchedMode` -/

@[simp] theorem Dec.matchedMode_life (d : Dec) (w : Nat) : (d.matchedMode w).life = d.life := rfl
@[simp] theorem Dec.matchedMode_cfg (d : Dec) (w : Nat) : (d.matchedMode w).cfg = d.cfg := rfl
@[simp] theorem Dec.matchedMode_pcfg (d : Dec) (w : Nat) : (d.matchedMode w).pcfg = d.pcfg := rfl
@[simp] theorem Dec.matchedMode_win (d : Dec) (w : Nat) : (d.matchedMode w).win = d.win >>> 1 := rfl
@[simp] theorem Dec.matchedMode_winCount (d : Dec) (w : Nat) : (d.matchedMode w).winCount = d.winCount - 1 := rfl
@[simp] theorem Dec.matchedMode_skip (d : Dec) (w : Nat) : (d.matchedMode w).skip = w - 1 := rfl
@[simp] theorem Dec.matchedMode_eolCount (d : Dec) (w : Nat) : (d.matchedMode w).eolCount = d.eolCount := rfl
@[simp] theorem Dec.matchedMode_complete (d : Dec) (w : Nat) : (d.matchedMode w).complete = d.complete := rfl
@[simp] theorem Dec.matchedMode_rowIs2d (d : Dec) (w : Nat) : (d.matchedMode w).rowIs2d = d.rowIs2d := rfl
@[simp] theorem Dec.matchedMode_a0 (d : Dec) (w : Nat) : (d.matchedMode w).a0 = d.a0 := rfl
@[simp] theorem Dec.matchedMode_color (d : Dec) (w : Nat) : (d.matchedMode w).color = d.color := rfl
@[simp] theorem Dec.matchedMode_runAcc (d : Dec) (w : Nat) : (d.matchedMode w).runAcc = d.runAcc := rfl
@[simp] theorem Dec.matchedMode_hpair (d : Dec) (w : Nat) : (d.matchedMode w).hpair = d.hpair := rfl
@[simp] theorem Dec.matchedMode_codes (d : Dec) (w : Nat) : (d.matchedMode w).codes = d.codes + 1 := rfl
@[simp] theorem Dec.matchedMode_curRuns (d : Dec) (w : Nat) : (d.matchedMode w).curRuns = d.curRuns := rfl
@[simp] theorem Dec.matchedMode_refRuns (d : Dec) (w : Nat) : (d.matchedMode w).refRuns = d.refRuns := rfl
@[simp] theorem Dec.matchedMode_img (d : Dec) (w : Nat) : (d.matchedMode w).img = d.img := rfl
@[simp] theorem Dec.matchedMode_rows (d : Dec) (w : Nat) : (d.matchedMode w).rows = d.rows := rfl
@[simp] theorem Dec.matchedMode_imgCapRows (d : Dec) (w : Nat) : (d.matchedMode w).imgCapRows = d.imgCapRows := rfl
@[simp] theorem Dec.matchedMode_nomem (d : Dec) (w : Nat) : (d.matchedMode w).nomem = d.nomem := rfl
@[simp] theorem Dec.matchedMode_invalid (d : Dec) (w : Nat) : (d.matchedMode w).invalid = d.invalid := rfl
@[simp] theorem Dec.matchedMode_bitsInRow (d : Dec) (w : Nat) : (d.matchedMode w).bitsInRow = d.bitsInRow + w := rfl
@[simp] theorem Dec.matchedMode_pageBits (d : Dec) (w : Nat) : (d.matchedMode w).pageBits = d.pageBits := rfl
@[simp] theorem Dec.matchedMode_overflow (d : Dec) (w : Nat) : (d.matchedMode w).overflow = d.overflow := rfl
@[simp] theorem Dec.matchedMode_page (d : Dec) (w : Nat) : (d.matchedMode w).page = d.page := rfl
@[simp] theorem Dec.matchedMode_stats (d : Dec) (w : Nat) : (d.matchedMode w).stats = d.stats := rfl
@[simp] theorem Dec.matchedMode_alloc (d : Dec) (w : Nat) : (d.matchedMode w).alloc = d.alloc := rfl
@[simp] theorem Dec.matchedMode_sink (d : Dec) (w : Nat) : (d.matchedMode w).sink = d.sink := rfl
@[simp] theorem Dec.matchedMode_trace (d : Dec) (w : Nat) : (d.matchedMode w).trace = d.trace := rfl
@[simp] theorem Dec.matchedMode_userData (d : Dec) (w : Nat) : (d.matchedMode w).userData = d.userData := rfl

/-! `Dec.dropUnmatched` -/

@[simp] theorem Dec.dropUnmatched_life (d : Dec) (ev : TraceEvent) : (d.dropUnmatched ev).life = d.life := rfl
@[simp] theorem Dec.dropUnmatched_cfg (d : Dec) (ev : TraceEvent) : (d.dropUnmatched ev).cfg = d.cfg := rfl
@[simp] theorem Dec.dropUnmatched_pcfg (d : Dec) (ev : TraceEvent) : (d.dropUnmatched ev).pcfg = d.pcfg := rfl
@[simp] theorem Dec.dropUnmatched_win (d : Dec) (ev : TraceEvent) : (d.dropUnmatched ev).win = d.win >>> 1 := rfl
@[simp] theorem Dec.dropUnmatched_winCount (d : Dec) (ev : TraceEvent) : (d.dropUnmatched ev).winCount = d.winCount - 1 := rfl
@[simp] theorem Dec.dropUnmatched_skip (d : Dec) (ev : TraceEvent) : (d.dropUnmatched ev).skip = d.skip := rfl
@[simp] theorem Dec.dropUnmatched_eolCount (d : Dec) (ev : TraceEvent) : (d.dropUnmatched ev).eolCount = d.eolCount := rfl
@[simp] theorem Dec.dropUnmatched_complete (d : Dec) (ev : TraceEvent) : (d.dropUnmatched ev).complete = d.complete := rfl
@[simp] theorem Dec.dropUnmatched_rowIs2d (d : Dec) (ev : TraceEvent) : (d.dropUnmatched ev).rowIs2d = d.rowIs2d := rfl
@[simp] theorem Dec.dropUnmatched_a0 (d : Dec) (ev : TraceEvent) : (d.dropUnmatched ev).a0 = d.a0 := rfl
@[simp] theorem Dec.dropUnmatched_color (d : Dec) (ev : TraceEvent) : (d.dropUnmatched ev).color = d.color := rfl
@[simp] theorem Dec.dropUnmatched_runAcc (d : Dec) (ev : TraceEvent) : (d.dropUnmatched ev).runAcc = d.runAcc := rfl
@[simp] theorem Dec.dropUnmatched_hpair (d : Dec) (ev : TraceEvent) : (d.dropUnmatched ev).hpair = d.hpair := rfl
@[simp] theorem Dec.dropUnmatched_codes (d : Dec) (ev : TraceEvent) : (d.dropUnmatched ev).codes = d.codes := rfl
@[simp] theorem Dec.dropUnmatched_curRuns (d : Dec) (ev : TraceEvent) : (d.dropUnmatched ev).curRuns = d.curRuns := rfl
@[simp] theorem Dec.dropUnmatched_refRuns (d : Dec) (ev : TraceEvent) : (d.dropUnmatched ev).refRuns = d.refRuns := rfl
@[simp] theorem Dec.dropUnmatched_img (d : Dec) (ev : TraceEvent) : (d.dropUnmatched ev).img = d.img := rfl
@[simp] theorem Dec.dropUnmatched_rows (d : Dec) (ev : TraceEvent) : (d.dropUnmatched ev).rows = d.rows := rfl
@[simp] theorem Dec.dropUnmatched_imgCapRows (d : Dec) (ev : TraceEvent) : (d.dropUnmatched ev).imgCapRows = d.imgCapRows := rfl
@[simp] theorem Dec.dropUnmatched_nomem (d : Dec) (ev : TraceEvent) : (d.dropUnmatched ev).nomem = d.nomem := rfl
@[simp] theorem Dec.dropUnmatched_invalid (d : Dec) (ev : TraceEvent) : (d.dropUnmatched ev).invalid = d.invalid := rfl
@[simp] theorem Dec.dropUnmatched_bitsInRow (d : Dec) (ev : TraceEvent) : (d.dropUnmatched ev).bitsInRow = d.bitsInRow + 1 := rfl
@[simp] theorem Dec.dropUnmatched_pageBits (d : Dec) (ev : TraceEvent) : (d.dropUnmatched ev).pageBits = d.pageBits := rfl
@[simp] theorem Dec.dropUnmatched_overflow (d : Dec) (ev : TraceEvent) : (d.dropUnmatched ev).overflow = d.overflow := rfl
@[simp] theorem Dec.dropUnmatched_page (d : Dec) (ev : TraceEvent) : (d.dropUnmatched ev).page = d.page := rfl
@[simp] theorem Dec.dropUnmatched_stats (d : Dec) (ev : TraceEvent) : (d.dropUnmatched ev).stats = d.stats := rfl
@[simp] theorem Dec.dropUnmatched_alloc (d : Dec) (ev : TraceEvent) : (d.dropUnmatched ev).alloc = d.alloc := rfl
@[simp] theorem Dec.dropUnmatched_sink (d : Dec) (ev : TraceEvent) : (d.dropUnmatched ev).sink = d.sink := rfl
@[simp] theorem Dec.dropUnmatched_trace (d : Dec) (ev : TraceEvent) : (d.dropUnmatched ev).trace = d.trace ++ [ev] := rfl
@[simp] theorem Dec.dropUnmatched_userData (d : Dec) (ev : TraceEvent) : (d.dropUnmatched ev).userData = d.userData := rfl

/-! `Dec.invalidMode` -/

@[simp] theorem Dec.invalidMode_life (d : Dec) : (d.invalidMode).life = d.life := rfl
@[simp] theorem Dec.invalidMode_cfg (d : Dec) : (d.invalidMode).cfg = d.cfg := rfl
@[simp] theorem Dec.invalidMode_pcfg (d : Dec) : (d.invalidMode).pcfg = d.pcfg := rfl
@[simp] theorem Dec.invalidMode_win (d : Dec) : (d.invalidMode).win = d.win := rfl
@[simp] theorem Dec.invalidMode_winCount (d : Dec) : (d.invalidMode).winCount = d.winCount := rfl
@[simp] theorem Dec.invalidMode_skip (d : Dec) : (d.invalidMode).skip = d.skip := rfl
@[simp] theorem Dec.invalidMode_eolCount (d : Dec) : (d.invalidMode).eolCount = d.eolCount := rfl
@[simp] theorem Dec.invalidMode_complete (d : Dec) : (d.invalidMode).complete = d.complete := rfl
@[simp] theorem Dec.invalidMode_rowIs2d (d : Dec) : (d.invalidMode).rowIs2d = d.rowIs2d := rfl
@[simp] theorem Dec.invalidMode_a0 (d : Dec) : (d.invalidMode).a0 = d.a0 := rfl
@[simp] theorem Dec.invalidMode_color (d : Dec) : (d.invalidMode).color = d.color := rfl
@[simp] theorem Dec.invalidMode_runAcc (d : Dec) : (d.invalidMode).runAcc = d.runAcc := rfl
@[simp] theorem Dec.invalidMode_hpair (d : Dec) : (d.invalidMode).hpair = d.hpair := rfl
@[simp] theorem Dec.invalidMode_codes (d : Dec) : (d.invalidMode).codes = d.codes := rfl
@[simp] theorem Dec.invalidMode_curRuns (d : Dec) : (d.invalidMode).curRuns = d.curRuns := rfl
@[simp] theorem Dec.invalidMode_refRuns (d : Dec) : (d.invalidMode).refRuns = d.refRuns := rfl
@[simp] theorem Dec.invalidMode_img (d : Dec) : (d.invalidMode).img = d.img := rfl
@[simp] theorem Dec.invalidMode_rows (d : Dec) : (d.invalidMode).rows = d.rows := rfl
@[simp] theorem Dec.invalidMode_imgCapRows (d : Dec) : (d.invalidMode).imgCapRows = d.imgCapRows := rfl
@[simp] theorem Dec.invalidMode_nomem (d : Dec) : (d.invalidMode).nomem = d.nomem := rfl
@[simp] theorem Dec.invalidMode_invalid (d : Dec) : (d.invalidMode).invalid = true := rfl
@[simp] theorem Dec.invalidMode_bitsInRow (d : Dec) : (d.invalidMode).bitsInRow = d.bitsInRow := rfl
@[simp] theorem Dec.invalidMode_pageBits (d : Dec) : (d.invalidMode).pageBits = d.pageBits := rfl
@[simp] theorem Dec.invalidMode_overflow (d : Dec) : (d.invalidMode).overflow = d.overflow := rfl
@[simp] theorem Dec.invalidMode_page (d : Dec) : (d.invalidMode).page = d.page := rfl
@[simp] theorem Dec.invalidMode_stats (d : Dec) : (d.invalidMode).stats = d.stats := rfl
@[simp] theorem Dec.invalidMode_alloc (d : Dec) : (d.invalidMode).alloc = d.alloc := rfl
@[simp] theorem Dec.invalidMode_sink (d : Dec) : (d.invalidMode).sink = d.sink := rfl
@[simp] theorem Dec.invalidMode_trace (d : Dec) : (d.invalidMode).trace = d.trace ++ [.invalid] := rfl
@[simp] theorem Dec.invalidMode_userData (d : Dec) : (d.invalidMode).userData = d.userData := rfl

/-! `Dec.skipBit` -/

@[simp] theorem Dec.skipBit_life (d : Dec) : (d.skipBit).life = d.life := rfl
@[simp] theorem Dec.skipBit_cfg (d : Dec) : (d.skipBit).cfg = d.cfg := rfl
@[simp] theorem Dec.skipBit_pcfg (d : Dec) : (d.skipBit).pcfg = d.pcfg := rfl
@[simp] theorem Dec.skipBit_win (d : Dec) : (d.skipBit).win = d.win >>> 1 := rfl
@[simp] theorem Dec.skipBit_winCount (d : Dec) : (d.skipBit).winCount = d.winCount - 1 := rfl
@[simp] theorem Dec.skipBit_skip (d : Dec) : (d.skipBit).skip = d.skip - 1 := rfl
@[simp] theorem Dec.skipBit_eolCount (d : Dec) : (d.skipBit).eolCount = d.eolCount := rfl
@[simp] theorem Dec.skipBit_complete (d : Dec) : (d.skipBit).complete = d.complete := rfl
@[simp] theorem Dec.skipBit_rowIs2d (d : Dec) : (d.skipBit).rowIs2d = d.rowIs2d := rfl
@[simp] theorem Dec.skipBit_a0 (d : Dec) : (d.skipBit).a0 = d.a0 := rfl
@[simp] theorem Dec.skipBit_color (d : Dec) : (d.skipBit).color = d.color := rfl
@[simp] theorem Dec.skipBit_runAcc (d : Dec) : (d.skipBit).runAcc = d.runAcc := rfl
@[simp] theorem Dec.skipBit_hpair (d : Dec) : (d.skipBit).hpair = d.hpair := rfl
@[simp] theorem Dec.skipBit_codes (d : Dec) : (d.skipBit).codes = d.codes := rfl
@[simp] theorem Dec.skipBit_curRuns (d : Dec) : (d.skipBit).curRuns = d.curRuns := rfl
@[simp] theorem Dec.skipBit_refRuns (d : Dec) : (d.skipBit).refRuns = d.refRuns := rfl
@[simp] theorem Dec.skipBit_img (d : Dec) : (d.skipBit).img = d.img := rfl
@[simp] theorem Dec.skipBit_rows (d : Dec) : (d.skipBit).rows = d.rows := rfl
@[simp] theorem Dec.skipBit_imgCapRows (d : Dec) : (d.skipBit).imgCapRows = d.imgCapRows := rfl
@[simp] theorem Dec.skipBit_nomem (d : Dec) : (d.skipBit).nomem = d.nomem := rfl
@[simp] theorem Dec.skipBit_invalid (d : Dec) : (d.skipBit).invalid = d.invalid := rfl
@[simp] theorem Dec.skipBit_bitsInRow (d : Dec) : (d.skipBit).bitsInRow = d.bitsInRow := rfl
@[simp] theorem Dec.skipBit_pageBits (d : Dec) : (d.skipBit).pageBits = d.pageBits := rfl
@[simp] theorem Dec.skipBit_overflow (d : Dec) : (d.skipBit).overflow = d.overflow := rfl
@[simp] theorem Dec.skipBit_page (d : Dec) : (d.skipBit).page = d.page := rfl
@[simp] theorem Dec.skipBit_stats (d : Dec) : (d.skipBit).stats = d.stats := rfl
@[simp] theorem Dec.skipBit_alloc (d : Dec) : (d.skipBit).alloc = d.alloc := rfl
@[simp] theorem Dec.skipBit_sink (d : Dec) : (d.skipBit).sink = d.sink := rfl
@[simp] theorem Dec.skipBit_trace (d : Dec) : (d.skipBit).trace = d.trace := rfl
@[simp] theorem Dec.skipBit_userData (d : Dec) : (d.skipBit).userData = d.userData := rfl

/-! `Dec.huntBit` -/

@[simp] theorem Dec.huntBit_life (d : Dec) : (d.huntBit).life = d.life := rfl
@[simp] theorem Dec.huntBit_cfg (d : Dec) : (d.huntBit).cfg = d.cfg := rfl
@[simp] theorem Dec.huntBit_pcfg (d : Dec) : (d.huntBit).pcfg = d.pcfg := rfl
@[simp] theorem Dec.huntBit_win (d : Dec) : (d.huntBit).win = d.win >>> 1 := rfl
@[simp] theorem Dec.huntBit_winCount (d : Dec) : (d.huntBit).winCount = d.winCount - 1 := rfl
@[simp] theorem Dec.huntBit_skip (d : Dec) : (d.huntBit).skip = d.skip := rfl
@[simp] theorem Dec.huntBit_eolCount (d : Dec) : (d.huntBit).eolCount = d.eolCount := rfl
@[simp] theorem Dec.huntBit_complete (d : Dec) : (d.huntBit).complete = d.complete := rfl
@[simp] theorem Dec.huntBit_rowIs2d (d : Dec) : (d.huntBit).rowIs2d = d.rowIs2d := rfl
@[simp] theorem Dec.huntBit_a0 (d : Dec) : (d.huntBit).a0 = d.a0 := rfl
@[simp] theorem Dec.huntBit_color (d : Dec) : (d.huntBit).color = d.color := rfl
@[simp] theorem Dec.huntBit_runAcc (d : Dec) : (d.huntBit).runAcc = d.runAcc := rfl
@[simp] theorem Dec.huntBit_hpair (d : Dec) : (d.huntBit).hpair = d.hpair := rfl
@[simp] theorem Dec.huntBit_codes (d : Dec) : (d.huntBit).codes = d.codes := rfl
@[simp] theorem Dec.huntBit_curRuns (d : Dec) : (d.huntBit).curRuns = d.curRuns := rfl
@[simp] theorem Dec.huntBit_refRuns (d : Dec) : (d.huntBit).refRuns = d.refRuns := rfl
@[simp] theorem Dec.huntBit_img (d : Dec) : (d.huntBit).img = d.img := rfl
@[simp] theorem Dec.huntBit_rows (d : Dec) : (d.huntBit).rows = d.rows := rfl
@[simp] theorem Dec.huntBit_imgCapRows (d : Dec) : (d.huntBit).imgCapRows = d.imgCapRows := rfl
@[simp] theorem Dec.huntBit_nomem (d : Dec) : (d.huntBit).nomem = d.nomem := rfl
@[simp] theorem Dec.huntBit_invalid (d : Dec) : (d.huntBit).invalid = d.invalid := rfl
@[simp] theorem Dec.huntBit_bitsInRow (d : Dec) : (d.huntBit).bitsInRow = d.bitsInRow := rfl
@[simp] theorem Dec.huntBit_pageBits (d : Dec) : (d.huntBit).pageBits = d.pageBits := rfl
@[simp] theorem Dec.huntBit_overflow (d : Dec) : (d.huntBit).overflow = d.overflow := rfl
@[simp] theorem Dec.huntBit_page (d : Dec) : (d.huntBit).page = d.page := rfl
@[simp] theorem Dec.huntBit_stats (d : Dec) : (d.huntBit).stats = d.stats := rfl
@[simp] theorem Dec.huntBit_alloc (d : Dec) : (d.huntBit).alloc = d.alloc := rfl
@[simp] theorem Dec.huntBit_sink (d : Dec) : (d.huntBit).sink = d.sink := rfl
@[simp] theorem Dec.huntBit_trace (d : Dec) : (d.huntBit).trace = d.trace := rfl
@[simp] theorem Dec.huntBit_userData (d : Dec) : (d.huntBit).userData = d.userData := rfl

/-! `Enc.storeByte` -/

@[simp] theorem Enc.storeByte_life (e : Enc) : (e.storeByte).life = e.life := rfl
@[simp] theorem Enc.storeByte_cfg (e : Enc) : (e.storeByte).cfg = e.cfg := rfl
@[simp] theorem Enc.storeByte_pcfg (e : Enc) : (e.storeByte).pcfg = e.pcfg := rfl
@[simp] theorem Enc.storeByte_k (e : Enc) : (e.storeByte).k = e.k := rfl
@[simp] theorem Enc.storeByte_refRuns (e : Enc) : (e.storeByte).refRuns = e.refRuns := rfl
@[simp] theorem Enc.storeByte_curRow (e : Enc) : (e.storeByte).curRow = e.curRow := rfl
@[simp] theorem Enc.storeByte_curRuns (e : Enc) : (e.storeByte).curRuns = e.curRuns := rfl
@[simp] theorem Enc.storeByte_rowsTo1d (e : Enc) : (e.storeByte).rowsTo1d = e.rowsTo1d := rfl
@[simp] theorem Enc.storeByte_acc (e : Enc) : (e.storeByte).acc = 0 := rfl
@[simp] theorem Enc.storeByte_accBits (e : Enc) : (e.storeByte).accBits = 0 := rfl
@[simp] theorem Enc.storeByte_out (e : Enc) : (e.storeByte).out = writeByte e.out e.outBytes (e.acc.setWidth 8) := rfl
@[simp] theorem Enc.storeByte_outBytes (e : Enc) : (e.storeByte).outBytes = e.outBytes + 1 := rfl
@[simp] theorem Enc.storeByte_outCap (e : Enc) : (e.storeByte).outCap = e.outCap := rfl
@[simp] theorem Enc.storeByte_rowBits (e : Enc) : (e.storeByte).rowBits = e.rowBits := rfl
@[simp] theorem Enc.storeByte_srcDone (e : Enc) : (e.storeByte).srcDone = e.srcDone := rfl
@[simp] theorem Enc.storeByte_termDone (e : Enc) : (e.storeByte).termDone = e.termDone := rfl
@[simp] theorem Enc.storeByte_rowReadError (e : Enc) : (e.storeByte).rowReadError = e.rowReadError := rfl
@[simp] theorem Enc.storeByte_nomem (e : Enc) : (e.storeByte).nomem = e.nomem := rfl
@[simp] theorem Enc.storeByte_outPos (e : Enc) : (e.storeByte).outPos = e.outPos := rfl
@[simp] theorem Enc.storeByte_rows (e : Enc) : (e.storeByte).rows = e.rows := rfl
@[simp] theorem Enc.storeByte_page (e : Enc) : (e.storeByte).page = e.page := rfl
@[simp] theorem Enc.storeByte_stats (e : Enc) : (e.storeByte).stats = e.stats := rfl
@[simp] theorem Enc.storeByte_alloc (e : Enc) : (e.storeByte).alloc = e.alloc := rfl
@[simp] theorem Enc.storeByte_source (e : Enc) : (e.storeByte).source = e.source := rfl
@[simp] theorem Enc.storeByte_reads (e : Enc) : (e.storeByte).reads = e.reads := rfl
@[simp] theorem Enc.storeByte_userData (e : Enc) : (e.storeByte).userData = e.userData := rfl

/-! `Enc.afterRead` -/

@[simp] theorem Enc.afterRead_life (e : Enc) (bpr : Nat) : (e.afterRead bpr).life = e.life := rfl
@[simp] theorem Enc.afterRead_cfg (e : Enc) (bpr : Nat) : (e.afterRead bpr).cfg = e.cfg := rfl
@[simp] theorem Enc.afterRead_pcfg (e : Enc) (bpr : Nat) : (e.afterRead bpr).pcfg = e.pcfg := rfl
@[simp] theorem Enc.afterRead_k (e : Enc) (bpr : Nat) : (e.afterRead bpr).k = e.k := rfl
@[simp] theorem Enc.afterRead_refRuns (e : Enc) (bpr : Nat) : (e.afterRead bpr).refRuns = e.refRuns := rfl
@[simp] theorem Enc.afterRead_curRow (e : Enc) (bpr : Nat) : (e.afterRead bpr).curRow = e.curRow := rfl
@[simp] theorem Enc.afterRead_curRuns (e : Enc) (bpr : Nat) : (e.afterRead bpr).curRuns = e.curRuns := rfl
@[simp] theorem Enc.afterRead_rowsTo1d (e : Enc) (bpr : Nat) : (e.afterRead bpr).rowsTo1d = e.rowsTo1d := rfl
@[simp] theorem Enc.afterRead_acc (e : Enc) (bpr : Nat) : (e.afterRead bpr).acc = e.acc := rfl
@[simp] theorem Enc.afterRead_accBits (e : Enc) (bpr : Nat) : (e.afterRead bpr).accBits = e.accBits := rfl
@[simp] theorem Enc.afterRead_out (e : Enc) (bpr : Nat) : (e.afterRead bpr).out = e.out := rfl
@[simp] theorem Enc.afterRead_outBytes (e : Enc) (bpr : Nat) : (e.afterRead bpr).outBytes = e.outBytes := rfl
@[simp] theorem Enc.afterRead_outCap (e : Enc) (bpr : Nat) : (e.afterRead bpr).outCap = e.outCap := rfl
@[simp] theorem Enc.afterRead_rowBits (e : Enc) (bpr : Nat) : (e.afterRead bpr).rowBits = e.rowBits := rfl
@[simp] theorem Enc.afterRead_srcDone (e : Enc) (bpr : Nat) : (e.afterRead bpr).srcDone = e.srcDone := rfl
@[simp] theorem Enc.afterRead_termDone (e : Enc) (bpr : Nat) : (e.afterRead bpr).termDone = e.termDone := rfl
@[simp] theorem Enc.afterRead_rowReadError (e : Enc) (bpr : Nat) : (e.afterRead bpr).rowReadError = e.rowReadError := rfl
@[simp] theorem Enc.afterRead_nomem (e : Enc) (bpr : Nat) : (e.afterRead bpr).nomem = e.nomem := rfl
@[simp] theorem Enc.afterRead_outPos (e : Enc) (bpr : Nat) : (e.afterRead bpr).outPos = e.outPos := rfl
@[simp] theorem Enc.afterRead_rows (e : Enc) (bpr : Nat) : (e.afterRead bpr).rows = e.rows := rfl
@[simp] theorem Enc.afterRead_page (e : Enc) (bpr : Nat) : (e.afterRead bpr).page = e.page := rfl
@[simp] theorem Enc.afterRead_stats (e : Enc) (bpr : Nat) : (e.afterRead bpr).stats = e.stats := rfl
@[simp] theorem Enc.afterRead_alloc (e : Enc) (bpr : Nat) : (e.afterRead bpr).alloc = e.alloc := rfl
@[simp] theorem Enc.afterRead_source (e : Enc) (bpr : Nat) : (e.afterRead bpr).source = (e.source.answer bpr).2 := rfl
@[simp] theorem Enc.afterRead_reads (e : Enc) (bpr : Nat) : (e.afterRead bpr).reads = e.reads ++ [⟨e.userData, bpr⟩] := rfl
@[simp] theorem Enc.afterRead_userData (e : Enc) (bpr : Nat) : (e.afterRead bpr).userData = e.userData := rfl

/-! `RowSource.nextPage`, and the row source of `Enc.startPage` -/

@[simp] theorem RowSource.nextPage_script (r : RowSource) : r.nextPage.script = r.later.headD [] := rfl
@[simp] theorem RowSource.nextPage_calls (r : RowSource) : r.nextPage.calls = 0 := rfl
@[simp] theorem RowSource.nextPage_later (r : RowSource) : r.nextPage.later = r.later.tail := rfl
@[simp] theorem RowSource.nextPage_page (r : RowSource) : r.nextPage.page = r.page + 1 := rfl
@[simp] theorem Enc.startPage_source (p : Params) (e : Enc) : (Enc.startPage p e).source = e.source.nextPage := rfl

end Sys2Proof.Machine
end

