-- ==== Sys2Proof/Laws/Answers.lean ====
section
/-! SUPPORT. What the operations on answers can do: `andThen`, `admitIf`, the page readers, `onRow`. -/

namespace Sys2Proof.Machine

@[simp] theorem andThen_next {α β : Type} (a : α) (f : α → Res β) : andThen (.next a) f = f a := rfl

@[simp] theorem andThen_fault {α β : Type} (x : Fault) (f : α → Res β) : andThen (.fault x) f = .fault x := rfl

@[simp] theorem andThen_refused {α β : Type} (x : Refusal) (f : α → Res β) : andThen (.refused x) f = .refused x := rfl

/-- A sequence that answers has answered at each of its parts. -/
theorem andThen_eq_next {α β : Type} {r : Res α} {f : α → Res β} {b : β} (h : andThen r f = .next b) :
    ∃ a, r = .next a ∧ f a = .next b := by
  cases r with
  | next a => exact ⟨a, rfl, h⟩
  | fault x => cases h
  | refused x => cases h

theorem andThen_assoc {α β γ : Type} (r : Res α) (f : α → Res β) (g : β → Res γ) :
    andThen (andThen r f) g = andThen r fun a => andThen (f a) g := by cases r <;> rfl

@[simp] theorem admitIf_true {α : Type} (r : Refusal) (k : Res α) : admitIf true r k = k := rfl

@[simp] theorem admitIf_false {α : Type} (r : Refusal) (k : Res α) : admitIf false r k = .refused r := rfl

/-- A guarded command that answers met its condition. -/
theorem admitIf_eq_next {α : Type} {c : Bool} {r : Refusal} {k : Res α} {a : α} (h : admitIf c r k = .next a) :
    c = true ∧ k = .next a := by
  cases c with
  | true => exact ⟨rfl, h⟩
  | false => cases h

/-- What a decoder page in progress reads (R24). -/
theorem rxPage_eq {s : State} {m : Mode} {w : Word} (hl : s.dec.life = .inPage) (hm : s.dec.pcfg.mode = some m)
    (hw : s.dec.pcfg.width = some w) :
    rxPage s = .next ⟨m, w.toNat, w.toNat + s.par.runMargin, s.par.imgGrowRows⟩ := by
  simp [rxPage, hl, hm, hw]

/-- Everything `rxPage` needs when it answers. -/
theorem rxPage_eq_next {s : State} {pg : RxPage} (h : rxPage s = .next pg) :
    s.dec.life = .inPage ∧ ∃ m w, s.dec.pcfg.mode = some m ∧ s.dec.pcfg.width = some w ∧
      pg = ⟨m, w.toNat, w.toNat + s.par.runMargin, s.par.imgGrowRows⟩ := by
  obtain ⟨hl, h⟩ := admitIf_eq_next h
  split at h
  · rename_i m w hm hw
    exact ⟨by simpa using hl, m, w, hm, hw, by simpa using h.symm⟩
  · cases h

/-- What an encoder page in progress reads (R24, R25). -/
theorem txPage_eq {s : State} {m : Mode} {w b : Word} {k : Nat} (hl : s.enc.life = .inPage)
    (hm : s.enc.pcfg.mode = some m) (hw : s.enc.pcfg.width = some w) (hb : s.enc.pcfg.minRowBits = some b)
    (hk : txK m s.enc.k = .next k) :
    txPage s = .next ⟨m, w.toNat, k, b.toNat, s.par.outGrowBytes⟩ := by
  simp [txPage, hl, hm, hw, hb, hk]

/-- The encoder's page, in the statements' terms. -/
theorem txPage_of_inTxPage {s : State} {m : Mode} {w b : Word} (h : InTxPage s m w b) :
    txPage s = .next (txPageOf s m w b) := by
  obtain ⟨hl, hm, hw, hb, hk⟩ := h
  refine txPage_eq hl hm hw hb ?_
  cases m with
  | t42d =>
    obtain ⟨k, hk⟩ := Option.isSome_iff_exists.mp (hk rfl)
    simp [hk, txK]
  | t41d => rfl
  | t6 => rfl

/-- Everything `txPage` needs when it answers. -/
theorem txPage_eq_next {s : State} {pg : TxPage} (h : txPage s = .next pg) :
    s.enc.life = .inPage ∧ ∃ m w b k, s.enc.pcfg.mode = some m ∧ s.enc.pcfg.width = some w ∧
      s.enc.pcfg.minRowBits = some b ∧ txK m s.enc.k = .next k ∧
      pg = ⟨m, w.toNat, k, b.toNat, s.par.outGrowBytes⟩ := by
  obtain ⟨hl, h⟩ := admitIf_eq_next h
  split at h
  · rename_i m w b hm hw hb
    obtain ⟨k, hk, h⟩ := andThen_eq_next h
    exact ⟨by simpa using hl, m, w, b, k, hm, hw, hb, hk, by simpa using h.symm⟩
  · cases h

/-- A decision that answers read its page and changed the decoder only. -/
theorem onRow_eq_next {s t : State} {f : RxPage → Dec → Res Dec} (h : onRow s f = .next t) :
    ∃ pg d, rxPage s = .next pg ∧ f pg s.dec = .next d ∧ t = s.withDec d := by
  obtain ⟨pg, hp, h⟩ := andThen_eq_next h
  obtain ⟨d, hd, h⟩ := andThen_eq_next h
  exact ⟨pg, d, hp, hd, by simpa using h.symm⟩

/-- A decision in a page that answers. -/
theorem onRow_eq {s : State} {pg : RxPage} {f : RxPage → Dec → Res Dec} (hp : rxPage s = .next pg) :
    onRow s f = andThen (f pg s.dec) fun d => .next (s.withDec d) := by simp [onRow, hp]

/-- Outside a page no code word is read. -/
theorem onRow_refused {s : State} {f : RxPage → Dec → Res Dec} (h : s.dec.life ≠ .inPage) :
    onRow s f = .refused (.notAdmitted s.dec.life) := by
  have : (s.dec.life == .inPage) = false := by simpa using h
  simp [onRow, rxPage, this]

theorem txPage_refused {s : State} (h : s.enc.life ≠ .inPage) : txPage s = .refused (.notAdmitted s.enc.life) := by
  have : (s.enc.life == .inPage) = false := by simpa using h
  simp [txPage, this]

theorem rxPage_refused {s : State} (h : s.dec.life ≠ .inPage) : rxPage s = .refused (.notAdmitted s.dec.life) := by
  have : (s.dec.life == .inPage) = false := by simpa using h
  simp [rxPage, this]

@[simp] theorem finishTx_eq (s : State) (e : Enc) (r : CmdResult) :
    s.finishTx e r = .next ((s.withEnc e).withResult r) := rfl

@[simp] theorem finishRx_eq (s : State) (d : Dec) (r : CmdResult) :
    s.finishRx d r = .next ((s.withDec d).withResult r) := rfl

/-- A statistics word that fits (R51). -/
theorem statWord_eq {n : Nat} (h : n < 2 ^ 32) : statWord n = .next (BitVec.ofNat 32 n) := if_pos h

/-- A statistics word that does not (R333). -/
theorem statWord_fault {n : Nat} (h : 2 ^ 32 ≤ n) : statWord n = .fault .counterLimit :=
  if_neg (Nat.not_lt.mpr h)

end Sys2Proof.Machine
end

