-- ==== Sys2Proof/Laws/Memory.lean ====
section
/-! SUPPORT. The byte buffers: every write keeps the form, a read after a write, and what a write leaves alone. -/

namespace Sys2Proof.Machine

theorem Memory.wf_iff (m : Memory) : m.wf = true ↔ m.Pairwise fun a b => a.1 < b.1 := by simp [Memory.wf]

theorem Memory.wf_nil : Memory.wf [] = true := by simp [Memory.wf]

/-- The listed indices after a write are the old ones and the index written. -/
theorem mem_writeByte {m : Memory} {i : Nat} {v : Byte} {c : Host.Cell} (h : c ∈ writeByte m i v) :
    c = (i, v) ∨ c ∈ m := by
  induction m with
  | nil => simpa [writeByte] using h
  | cons x m ih =>
    obtain ⟨a, u⟩ := x
    simp only [writeByte] at h
    split at h
    · simpa using h
    · split at h
      · rcases List.mem_cons.mp h with h | h
        · exact .inl h
        · exact .inr (List.mem_cons_of_mem _ h)
      · rcases List.mem_cons.mp h with h | h
        · exact .inr (h ▸ List.mem_cons_self)
        · exact (ih h).imp id (List.mem_cons_of_mem _)

/-- One write keeps the form (R70). -/
theorem writeByte_wf {m : Memory} (i : Nat) (v : Byte) (h : m.wf = true) : (writeByte m i v).wf = true := by
  rw [Memory.wf_iff] at *
  induction m with
  | nil => simp [writeByte]
  | cons x m ih =>
    obtain ⟨a, u⟩ := x
    obtain ⟨hx, hm⟩ := List.pairwise_cons.mp h
    simp only [writeByte]
    split
    · rename_i hi
      refine List.pairwise_cons.mpr ⟨fun y hy => ?_, h⟩
      rcases List.mem_cons.mp hy with rfl | hy
      · exact hi
      · exact Nat.lt_trans hi (hx y hy)
    · split
      · rename_i ha
        exact List.pairwise_cons.mpr ⟨fun y hy => ha ▸ hx y hy, hm⟩
      · rename_i hi ha
        refine List.pairwise_cons.mpr ⟨fun y hy => ?_, ih hm⟩
        rcases mem_writeByte hy with rfl | hy
        · exact Nat.lt_of_le_of_ne (Nat.not_lt.mp hi) ha
        · exact hx y hy

/-- A sequence of writes keeps the form (R70). -/
theorem memWrite_wf {m : Memory} (addr : Nat) (vs : List Byte) (h : m.wf = true) : (memWrite m addr vs).wf = true := by
  induction vs generalizing m addr with
  | nil => exact h
  | cons v vs ih => exact ih (addr + 1) (writeByte_wf addr v h)

/-- A read of the index just written. -/
@[simp] theorem readByte_writeByte_same (m : Memory) (i : Nat) (v : Byte) : readByte (writeByte m i v) i = some v := by
  induction m with
  | nil => simp [writeByte, readByte]
  | cons x m ih =>
    obtain ⟨a, u⟩ := x
    simp only [writeByte]
    split
    · simp [readByte]
    · split
      · simp [readByte]
      · rename_i ha
        simp [readByte, ha, ih]

/-- A write leaves every other index alone. -/
theorem readByte_writeByte_ne (m : Memory) {i j : Nat} (v : Byte) (h : j ≠ i) :
    readByte (writeByte m i v) j = readByte m j := by
  induction m with
  | nil => simp [writeByte, readByte, h.symm]
  | cons x m ih =>
    obtain ⟨a, u⟩ := x
    simp only [writeByte]
    split
    · simp [readByte, h.symm]
    · split
      · rename_i ha
        subst ha
        simp [readByte, h.symm]
      · simp [readByte, ih]

/-- Indices below the written range keep their bytes. -/
theorem readByte_memWrite_below (m : Memory) {addr i : Nat} (vs : List Byte) (h : i < addr) :
    readByte (memWrite m addr vs) i = readByte m i := by
  induction vs generalizing m addr with
  | nil => rfl
  | cons v vs ih =>
    rw [memWrite, ih _ (by omega), readByte_writeByte_ne _ _ (by omega)]

/-- Indices past the written range keep their bytes. -/
theorem readByte_memWrite_above (m : Memory) {addr i : Nat} (vs : List Byte) (h : addr + vs.length ≤ i) :
    readByte (memWrite m addr vs) i = readByte m i := by
  induction vs generalizing m addr with
  | nil => rfl
  | cons v vs ih =>
    simp only [List.length_cons] at h
    rw [memWrite, ih _ (by omega), readByte_writeByte_ne _ _ (by omega)]

/-- Indices of the written range hold the bytes written. -/
theorem readByte_memWrite_at (m : Memory) (addr : Nat) (vs : List Byte) {i : Nat} (h : i < vs.length) :
    readByte (memWrite m addr vs) (addr + i) = some vs[i] := by
  induction vs generalizing m addr i with
  | nil => simp at h
  | cons v vs ih =>
    cases i with
    | zero => simp [memWrite, readByte_memWrite_below]
    | succ i =>
      have := ih (writeByte m addr v) (addr + 1) (Nat.lt_of_succ_lt_succ h)
      rw [memWrite, show addr + (i + 1) = addr + 1 + i by omega]
      simpa using this

/-- What a buffer read can do: it answers exactly when every byte of the range is there. -/
theorem memRead_eq_next_iff (m : Memory) (addr n : Nat) (vs : List Byte) :
    memRead m addr n = .next vs ↔ vs.length = n ∧ ∀ i < n, readByte m (addr + i) = vs[i]? := by
  induction n generalizing addr vs with
  | zero => cases vs <;> simp [memRead]
  | succ n ih =>
    simp only [memRead]
    constructor
    · intro h
      split at h
      · rename_i v hv
        cases hr : memRead m (addr + 1) n with
        | next us =>
          rw [hr] at h
          obtain ⟨hl, hu⟩ := (ih _ _).mp hr
          simp only [andThen, Host.Outcome.next.injEq] at h
          subst h
          refine ⟨by simp [hl], fun i hi => ?_⟩
          cases i with
          | zero => simpa using hv
          | succ i => simpa [Nat.add_assoc, Nat.add_comm 1 i] using hu i (by omega)
        | fault x => rw [hr] at h; cases h
        | refused x => rw [hr] at h; cases h
      · cases h
    · rintro ⟨hl, h⟩
      cases vs with
      | nil => simp at hl
      | cons v vs =>
        have h0 := h 0 (by omega)
        simp only [Nat.add_zero, List.getElem?_cons_zero] at h0
        have hr := (ih (addr + 1) vs).mpr ⟨by simpa using hl, fun i hi => by
          have := h (i + 1) (by omega)
          simpa [Nat.add_assoc, Nat.add_comm 1 i] using this⟩
        simp [h0, hr, andThen]

end Sys2Proof.Machine
end

