-- ==== Sys2Proof/Laws/Row.lean ====
section
/-! SUPPORT. Everything each operation of the line decoder and of the page buffer can do, said once: provers cite these and
unfold none of them. -/

namespace Sys2Proof.Machine

/-! ## Runs -/

/-- `append_run` (R215, R216). -/
theorem appendRun_eq_next {cap v : Nat} {d t : Dec} (h : d.appendRun cap v = .next t) :
    v < Config.runLimit ∧
      ((cap - 2 ≤ d.curRuns.length ∧ t = { d with overflow := true }) ∨
       (d.curRuns.length < cap - 2 ∧ d.curRuns.sum + v < Config.runLimit ∧
          t = { d with curRuns := d.curRuns ++ [v] })) := by
  unfold Dec.appendRun at h
  split at h
  · cases h
  · rename_i hv
    refine ⟨Nat.not_le.mp hv, ?_⟩
    split at h
    · rename_i hc
      exact .inl ⟨hc, by simpa using h.symm⟩
    · rename_i hc
      split at h
      · cases h
      · rename_i hs
        exact .inr ⟨Nat.not_le.mp hc, Nat.not_le.mp hs, by simpa using h.symm⟩

/-- A run that fits is appended (R215). -/
theorem appendRun_eq {cap v : Nat} {d : Dec} (hc : d.curRuns.length < cap - 2)
    (hs : d.curRuns.sum + v < Config.runLimit) : d.appendRun cap v = .next { d with curRuns := d.curRuns ++ [v] } := by
  unfold Dec.appendRun
  rw [if_neg (by omega), if_neg (by omega), if_neg (by omega)]

/-- A run past the RunArray's room is lost (R216). -/
theorem appendRun_overflow {cap v : Nat} {d : Dec} (hc : cap - 2 ≤ d.curRuns.length) (hv : v < Config.runLimit) :
    d.appendRun cap v = .next { d with overflow := true } := by
  unfold Dec.appendRun
  rw [if_neg (by omega), if_pos hc]

/-- `run_acc` and its bound (R12, R333). -/
theorem addRun_eq_next {n : Nat} {d t : Dec} (h : d.addRun n = .next t) :
    d.rowLen + n < Config.runLimit ∧ t = { d with runAcc := d.runAcc + n } := by
  unfold Dec.addRun at h
  split at h
  · cases h
  · rename_i hn
    exact ⟨Nat.not_le.mp hn, by simpa using h.symm⟩

theorem addRun_eq {n : Nat} {d : Dec} (h : d.rowLen + n < Config.runLimit) :
    d.addRun n = .next { d with runAcc := d.runAcc + n } := if_neg (Nat.not_le.mpr h)

/-! ## Commit -/

/-- The growth check of a commit (R272): room there, room granted, or no room. -/
theorem growImage_cases (pg : RxPage) (d : Dec) :
    (d.rows ≠ d.imgCapRows ∧ d.growImage pg = (true, d)) ∨
    (d.rows = d.imgCapRows ∧ (d.alloc.grow Config.rxAllocAnswer).1 = true ∧
      d.growImage pg =
        (true, { d with alloc := (d.alloc.grow Config.rxAllocAnswer).2, imgCapRows := d.imgCapRows + pg.imgGrow })) ∨
    (d.rows = d.imgCapRows ∧ (d.alloc.grow Config.rxAllocAnswer).1 = false ∧
      d.growImage pg = (false, { d with alloc := (d.alloc.grow Config.rxAllocAnswer).2, nomem := true })) := by
  unfold Dec.growImage
  split
  · rename_i hr
    rcases hg : d.alloc.grow Config.rxAllocAnswer with ⟨ok, a⟩
    cases ok
    · exact .inr (.inr ⟨hr, rfl, rfl⟩)
    · exact .inr (.inl ⟨hr, rfl, rfl⟩)
  · rename_i hr
    exact .inl ⟨hr, rfl⟩

/-- A commit that answers either found no memory and did nothing else (R272), or stored a row (R260). -/
theorem commitRow_eq_next {pg : RxPage} {d t : Dec} (h : d.commitRow pg = .next t) :
    (d.growImage pg = (false, t)) ∨
    ∃ d1 d2 data, d.growImage pg = (true, d1) ∧ d1.closeRow pg = .next d2 ∧ d2.rowData pg = .next data ∧
      d2.rows + 1 < Config.wordLimit ∧ t = d2.storeRow pg data := by
  unfold Dec.commitRow at h
  split at h
  · rename_i d1 hg
    exact .inl (by simpa [hg] using h)
  · rename_i d1 hg
    obtain ⟨d2, h2, h⟩ := andThen_eq_next h
    obtain ⟨data, h3, h⟩ := andThen_eq_next h
    split at h
    · rename_i hc
      exact .inr ⟨d1, d2, data, hg, h2, h3, by simpa [counterFits] using hc, by simpa using h.symm⟩
    · cases h

/-- Closing the open run changes the runs and the overflow flag only (R260). -/
theorem closeRow_eq_next {pg : RxPage} {d t : Dec} (h : d.closeRow pg = .next t) :
    t = d ∨ (0 < d.runAcc ∧ t = { d with overflow := true }) ∨
      (0 < d.runAcc ∧ t = { d with curRuns := d.curRuns ++ [d.runAcc] }) := by
  unfold Dec.closeRow at h
  split at h
  · rename_i hr
    rcases (appendRun_eq_next h).2 with ⟨_, rfl⟩ | ⟨_, _, rfl⟩
    · exact .inr (.inl ⟨hr, rfl⟩)
    · exact .inr (.inr ⟨hr, rfl⟩)
  · exact .inl (by simpa using h.symm)

theorem pack_length (px : List Color) : (pack px).length = bytesPerRow px.length := by simp [pack]

theorem expand_length (runs : List Nat) (w : Nat) : (expand runs w).length = w := by
  simp only [expand]
  split
  · simpa using ‹w ≤ _›
  · simp only [List.length_append, List.length_replicate]
    omega

/-- A row's data is one row long (R262, R269). -/
theorem rowData_length {pg : RxPage} {d : Dec} {data : List Byte} (h : d.rowData pg = .next data) :
    data.length = bytesPerRow pg.w := by
  unfold Dec.rowData at h
  split at h
  · have : data = pack (expand d.curRuns pg.w) := by simpa using h.symm
    rw [this, pack_length, expand_length]
  · unfold Dec.substitute at h
    split at h
    · exact ((memRead_eq_next_iff ..).mp h).1
    · have : data = List.replicate (bytesPerRow pg.w) 0 := by simpa using h.symm
      simp [this]

/-! ## Row end, modes, runs, end of line -/

/-- `t6_row_end_check` (R236): nothing, or a commit and a cleared EOL counter. -/
theorem t6RowEndCheck_eq_next {pg : RxPage} {d t : Dec} (h : d.t6RowEndCheck pg = .next t) :
    t = d ∨ (pg.mode = .t6 ∧ (pg.w ≤ d.a0 ∨ maxRowCodes pg.w ≤ d.codes) ∧
      ∃ u, d.commitRow pg = .next u ∧ t = { u with eolCount := 0 }) := by
  unfold Dec.t6RowEndCheck at h
  split at h
  · rename_i hc
    obtain ⟨u, hu, h⟩ := andThen_eq_next h
    exact .inr ⟨hc.1, hc.2, u, hu, by simpa using h.symm⟩
  · exact .inl (by simpa using h.symm)

/-- Where no row ends, the check does nothing (R236). -/
theorem t6RowEndCheck_eq {pg : RxPage} {d : Dec}
    (h : pg.mode ≠ .t6 ∨ (d.a0 < pg.w ∧ d.codes < maxRowCodes pg.w)) : d.t6RowEndCheck pg = .next d := by
  unfold Dec.t6RowEndCheck
  rw [if_neg]
  rintro ⟨hm, hc⟩
  rcases h with h | ⟨h1, h2⟩
  · exact h hm
  · omega

/-- Pass (R217). -/
theorem pass_eq_next {pg : RxPage} {d t : Dec} (h : d.pass pg = .next t) :
    ((d.b2 pg : Int) < d.start ∧ t = d.invalidMode) ∨
    (d.start ≤ d.b2 pg ∧ d.rowLen + (d.b2 pg - d.start).toNat < Config.runLimit ∧
      Dec.t6RowEndCheck pg { d with runAcc := d.runAcc + (d.b2 pg - d.start).toNat, a0 := d.b2 pg } = .next t) := by
  unfold Dec.pass at h
  split at h
  · rename_i hb
    exact .inl ⟨hb, by simpa using h.symm⟩
  · rename_i hb
    obtain ⟨u, hu, h⟩ := andThen_eq_next h
    obtain ⟨hl, rfl⟩ := addRun_eq_next hu
    exact .inr ⟨Int.not_lt.mp hb, hl, h⟩

/-- Vertical (R214). -/
theorem vertical_eq_next {pg : RxPage} {off : Int} {d t : Dec} (h : d.vertical off pg = .next t) :
    ((d.b1 pg : Int) + off < d.start ∧ t = d.invalidMode) ∨
    (d.start ≤ d.b1 pg + off ∧ ∃ u, d.appendRun pg.runsCap (d.runAcc + (d.b1 pg + off - d.start).toNat) = .next u ∧
      Dec.t6RowEndCheck pg { u with runAcc := 0, a0 := d.b1 pg + off, color := d.color.flip } = .next t) := by
  unfold Dec.vertical at h
  dsimp only at h
  split at h
  · rename_i hb
    exact .inl ⟨hb, by simpa using h.symm⟩
  · rename_i hb
    obtain ⟨u, hu, h⟩ := andThen_eq_next h
    refine .inr ⟨Int.not_lt.mp hb, u, hu, ?_⟩
    rcases (appendRun_eq_next hu).2 with ⟨_, rfl⟩ | ⟨_, _, rfl⟩ <;> exact h

/-- A Pass that is geometrically valid, and one that is not (R217, R238). -/
theorem pass_valid {pg : RxPage} {d : Dec} (h : d.start ≤ d.b2 pg) :
    d.pass pg = andThen (d.addRun (d.b2 pg - d.start).toNat) fun d' =>
      { d' with a0 := d.b2 pg }.t6RowEndCheck pg := if_neg (Int.not_lt.mpr h)

theorem pass_invalid {pg : RxPage} {d : Dec} (h : (d.b2 pg : Int) < d.start) : d.pass pg = .next d.invalidMode := if_pos h

/-- A Vertical that is geometrically valid, and one that is not (R214, R238). -/
theorem vertical_valid {pg : RxPage} {off : Int} {d : Dec} (h : d.start ≤ d.b1 pg + off) :
    d.vertical off pg = andThen (d.appendRun pg.runsCap (d.runAcc + (d.b1 pg + off - d.start).toNat)) fun d' =>
      { d' with runAcc := 0, a0 := d.b1 pg + off, color := d.color.flip }.t6RowEndCheck pg :=
  if_neg (Int.not_lt.mpr h)

theorem vertical_invalid {pg : RxPage} {off : Int} {d : Dec} (h : (d.b1 pg : Int) + off < d.start) :
    d.vertical off pg = .next d.invalidMode := if_pos h

/-- `hpair_advance` (R235). -/
theorem hpairAdvance_eq_next {pg : RxPage} {d t : Dec} (h : d.hpairAdvance pg = .next t) :
    (d.hpair = .none ∧ t = d) ∨ (d.hpair = .first ∧ t = { d with hpair := .second }) ∨
    (d.hpair = .second ∧
      Dec.t6RowEndCheck pg { d with hpair := .none, a0 := (d.curRuns.sum : Int) } = .next t) := by
  unfold Dec.hpairAdvance at h
  split at h
  · exact .inl ⟨‹_›, by simpa using h.symm⟩
  · exact .inr (.inl ⟨‹_›, by simpa using h.symm⟩)
  · exact .inr (.inr ⟨‹_›, h⟩)

/-- A terminating code (R230, R231): the run closed, the colour flipped, and in a 2D row the pair advanced. -/
theorem terminate_eq_next {pg : RxPage} {n : Nat} {d t : Dec} (h : d.terminate n pg = .next t) :
    ∃ u, d.appendRun pg.runsCap (d.runAcc + n) = .next u ∧
      ((d.rowIs2d = false ∧ t = { u with runAcc := 0, color := d.color.flip }) ∨
       (d.rowIs2d = true ∧
         Dec.hpairAdvance pg { u with runAcc := 0, color := d.color.flip, codes := d.codes + 1 } = .next t)) := by
  obtain ⟨u, hu, h⟩ := andThen_eq_next h
  refine ⟨u, hu, ?_⟩
  rcases (appendRun_eq_next hu).2 with ⟨_, rfl⟩ | ⟨_, _, rfl⟩ <;>
    · dsimp only at h ⊢
      cases hr : d.rowIs2d with
      | true => exact .inr ⟨rfl, by simpa [hr] using h⟩
      | false => exact .inl ⟨rfl, by simpa [hr] using h.symm⟩

/-- What an EOL does to the row (R207, R208). -/
theorem eolRow_eq_next {pg : RxPage} {d t : Dec} (h : d.eolRow pg = .next t) :
    (d.eolCount = -1 ∧ t = Dec.rowReset { d with eolCount := 0 }) ∨
    (d.eolCount ≠ -1 ∧ 0 < d.rowLen ∧ ∃ u, d.commitRow pg = .next u ∧ t = { u with eolCount := 1 }) ∨
    (d.eolCount ≠ -1 ∧ d.rowLen = 0 ∧ t = Dec.rowReset { d with eolCount := d.eolCount + 1 }) := by
  unfold Dec.eolRow at h
  split at h
  · exact .inl ⟨‹_›, by simpa using h.symm⟩
  · rename_i hc
    split at h
    · rename_i hl
      obtain ⟨u, hu, h⟩ := andThen_eq_next h
      exact .inr (.inl ⟨hc, hl, u, hu, by simpa using h.symm⟩)
    · rename_i hl
      exact .inr (.inr ⟨hc, by omega, by simpa using h.symm⟩)

/-- `eol()` (R207). -/
theorem eol_eq_next {pg : RxPage} {tag : Option Bool} {d t : Dec} (h : d.eol tag pg = .next t) :
    ∃ u, Dec.eolRow pg { d.drop (eolBits tag) with skip := 0 } = .next u ∧ t = u.eolFinish tag pg := by
  obtain ⟨u, hu, h⟩ := andThen_eq_next h
  exact ⟨u, hu, by simpa using h.symm⟩

end Sys2Proof.Machine
end

