-- ==== Sys2Proof/Laws/Decision.lean ====
section
/-! SUPPORT. The decision loop: the code words a PUT command runs are the ones `exec` runs, each decision consumes a bit, and
what one received bit can do. -/

namespace Sys2Proof.Machine

/-- A code word means the same inside a command as it does to `exec`. -/
theorem runCode_eq_exec {i : Instr} (h : isCodeWord i = true) (s : State) : runCode i s = exec i s := by
  cases i <;> first | rfl | exact Bool.noConfusion h

/-- Every row of a code table holds a code word. -/
theorem isCodeWord_of_modeRows : ∀ r ∈ modeRows, isCodeWord r.instr = true := by decide

theorem isCodeWord_of_runRows (c : Color) : ∀ r ∈ runRows c, isCodeWord r.instr = true := by
  cases c <;> decide

theorem lookupRow_mem {rows : List CodeRow} {win : BitVec 13} {r : CodeRow} (h : lookupRow rows win = some r) :
    r ∈ rows ∧ win.toNat % 2 ^ r.len = r.win :=
  ⟨List.mem_of_find?_eq_some h, by simpa [CodeRow.matches] using List.find?_some h⟩

/-- What the decoder reads from a window is a code word. -/
theorem isCodeWord_of_decodeCode {c : Context} {win : BitVec 13} {i : Instr} (h : decodeCode c win = .ok i) :
    isCodeWord i = true := by
  cases c with
  | eol tagged =>
    simp only [decodeCode] at h
    split at h
    · cases tagged <;> simp only [Except.ok.injEq] at h
      · subst h; rfl
      · split at h
        · split at h <;> (subst h; rfl)
        · subst h; rfl
    · cases h
  | mode2d =>
    simp only [decodeCode] at h
    split at h
    · rename_i r hr
      simp only [Except.ok.injEq] at h
      exact h ▸ isCodeWord_of_modeRows r (lookupRow_mem hr).1
    · cases h
  | run color =>
    simp only [decodeCode] at h
    split at h
    · rename_i r hr
      simp only [Except.ok.injEq] at h
      exact h ▸ isCodeWord_of_runRows color r (lookupRow_mem hr).1
    · cases h

theorem isCodeWord_of_decision {d : Dec} {i : Instr} (h : d.decision = .code i) : isCodeWord i = true := by
  unfold Dec.decision at h
  split at h
  · split at h
    · rename_i j hj
      cases h
      exact isCodeWord_of_decodeCode hj
    · cases h
  · split at h
    · cases h
    · split at h
      · cases h
      · split at h
        · rename_i j hj
          cases h
          exact isCodeWord_of_decodeCode hj
        · cases h

/-- One decision (R204) is `exec` of the code word decided, or a bit that is none. -/
theorem decide1_eq (s : State) :
    decide1 s = match s.dec.decision with
      | .code i => exec i s
      | .skip => onRow s fun _ d => .next d.skipBit
      | .hunt => onRow s fun _ d => .next d.huntBit
      | .unmatched => onRow s fun _ d => .next (d.dropUnmatched .bad1d) := by
  unfold decide1
  cases hd : s.dec.decision with
  | code i => exact runCode_eq_exec (isCodeWord_of_decision hd) s
  | skip => rfl
  | hunt => rfl
  | unmatched => rfl

/-- A step in the middle of the decision loop is one decision (R201). -/
theorem step_eq_decide1 {s : State} (h : decisionDue s = true) : step s = decide1 s := by
  rw [decide1_eq]
  unfold step nextWork
  rw [if_pos h]
  cases s.dec.decision <;> rfl

/-- A step on a host command (R85). -/
theorem step_eq_exec {s : State} {c : Command} {rest : List Command} {i : Instr} (h : decisionDue s = false)
    (hq : s.host.queue = c :: rest) (hi : decodeCommand c = .ok i) : step s = exec i (s.withQueue rest) := by
  unfold step nextWork
  simp [h, hq, commandWork, hi]

/-- The decision loop stops where no decision is due (R201). -/
theorem decisionLoop_stop {s : State} (h : s.dec.ready = false) (fuel : Nat) : decisionLoop fuel s = .next s := by
  cases fuel with
  | zero => rfl
  | succ n => simp [decisionLoop, h]

/-- A bit after the page's end, or after a memory failure, is discarded (R203). -/
theorem decodeBit_discard {s : State} (b : Bool) (h : s.dec.complete = true ∨ s.dec.nomem = true) :
    decodeBit b s = .next s := by
  unfold decodeBit
  rw [if_pos (by simpa using h)]

/-- A bit that leaves the window below 13 bits only waits (R202). -/
theorem decodeBit_wait {s : State} (b : Bool) (hc : s.dec.complete = false) (hn : s.dec.nomem = false)
    (hw : s.dec.winCount + 1 < 13) (hp : s.dec.pageBits + 1 < 2 ^ 32) :
    decodeBit b s = .next (s.withDec (s.dec.append b)) := by
  unfold decodeBit
  rw [if_neg (by simp [hc, hn]), if_pos (show counterFits s.dec.pageBits = true from decide_eq_true hp),
    decisionLoop_stop (by simp [Dec.ready, Config.winMin]; omega)]

end Sys2Proof.Machine
end

