-- ==== Sys2Proof/Laws/Encoder.lean ====
section
/-! SUPPORT. Everything the operations of the encoder can do: the bit packer, a row, the page's end, a pull, a delivery. -/

namespace Sys2Proof.Machine

/-! ## What an emission changes -/

/-- An emission writes the accumulator, the buffer with its capacity and oracle, the row's bit count and `nomem`, and
nothing else (R141). -/
def Enc.EmitFrame (e t : Enc) : Prop :=
  t = { e with
    acc := t.acc, accBits := t.accBits, out := t.out, outBytes := t.outBytes, outCap := t.outCap,
    rowBits := t.rowBits, nomem := t.nomem, alloc := t.alloc }

theorem Enc.EmitFrame.refl (e : Enc) : e.EmitFrame e := rfl

theorem Enc.EmitFrame.trans {a b c : Enc} (h : a.EmitFrame b) (k : b.EmitFrame c) : a.EmitFrame c := by
  unfold Enc.EmitFrame at *
  rw [k, h]

/-- A completed byte is stored where there is room or growth is granted, and otherwise ends the page (R141, R82). -/
theorem completeByte_cases (grow : Nat) (e : Enc) :
    (e.outBytes ≠ e.outCap ∧ e.completeByte grow = e.storeByte) ∨
    (e.outBytes = e.outCap ∧ (e.alloc.grow Config.txAllocAnswer).1 = true ∧
      e.completeByte grow =
        Enc.storeByte { e with alloc := (e.alloc.grow Config.txAllocAnswer).2, outCap := e.outCap + grow }) ∨
    (e.outBytes = e.outCap ∧ (e.alloc.grow Config.txAllocAnswer).1 = false ∧
      e.completeByte grow =
        { e with alloc := (e.alloc.grow Config.txAllocAnswer).2, nomem := true, acc := 0, accBits := 0 }) := by
  unfold Enc.completeByte
  split
  · rename_i hr
    rcases hg : e.alloc.grow Config.txAllocAnswer with ⟨ok, a⟩
    cases ok
    · exact .inr (.inr ⟨hr, rfl, rfl⟩)
    · exact .inr (.inl ⟨hr, rfl, rfl⟩)
  · exact .inl ⟨‹_›, rfl⟩

theorem emitBit_frame (grow : Nat) (b : Bool) (e : Enc) : e.EmitFrame (e.emitBit grow b) := by
  unfold Enc.emitBit
  dsimp only
  split
  · rcases completeByte_cases grow { e with acc := putBit e.acc e.accBits b, accBits := e.accBits + 1 } with
      ⟨_, h⟩ | ⟨_, _, h⟩ | ⟨_, _, h⟩ <;> (rw [h]; rfl)
  · rfl

theorem emitBits_frame (grow : Nat) (s : List Bool) (e : Enc) : e.EmitFrame (e.emitBits grow s) := by
  induction s generalizing e with
  | nil => exact Enc.EmitFrame.refl e
  | cons b s ih =>
    unfold Enc.emitBits
    split
    · exact Enc.EmitFrame.refl e
    · exact (emitBit_frame grow b e).trans (ih _)

theorem emit_frame (grow : Nat) (s : List Bool) (e : Enc) : e.EmitFrame (e.emit grow s) := by
  unfold Enc.emit
  split
  · exact Enc.EmitFrame.refl e
  · dsimp only
    split
    · exact emitBits_frame grow s e
    · exact (emitBits_frame grow s e).trans rfl

theorem emitAll_frame (grow : Nat) (ss : List (List Bool)) (e : Enc) : e.EmitFrame (e.emitAll grow ss) := by
  induction ss generalizing e with
  | nil => exact Enc.EmitFrame.refl e
  | cons s ss ih => exact (emit_frame grow s e).trans (ih _)

theorem pad_frame (grow : Nat) (e : Enc) : e.EmitFrame (e.pad grow) := emit_frame grow _ e

theorem fill_frame (pg : TxPage) (e : Enc) : e.EmitFrame (e.fill pg) := by
  unfold Enc.fill
  split
  · exact emitAll_frame _ _ e
  · exact Enc.EmitFrame.refl e

/-! ## After a memory failure nothing is emitted (R141, R186) -/

theorem emit_nomem {grow : Nat} {s : List Bool} {e : Enc} (h : e.nomem = true) : e.emit grow s = e := by
  simp [Enc.emit, h]

theorem emitAll_nomem {grow : Nat} {ss : List (List Bool)} {e : Enc} (h : e.nomem = true) :
    e.emitAll grow ss = e := by
  induction ss with
  | nil => rfl
  | cons s ss ih => simpa [Enc.emitAll, emit_nomem h] using ih

/-! ## Facts an emission keeps -/

/-- The packer's own facts (R70, R72, R82, R140): form, stored bytes, capacity, waiting bits; after a failure no bit waits. -/
structure Enc.Packed (e : Enc) : Prop where
  outWf : e.out.wf = true
  outListed : ∀ i < e.outBytes, (readByte e.out i).isSome
  outCap : e.outBytes ≤ e.outCap
  accBits : e.accBits ≤ 7
  accClean : e.acc.toNat < 2 ^ e.accBits
  nomemEmpty : e.nomem = true → e.accBits = 0

theorem putBit_clean {v : BitVec 20} {n : Nat} (b : Bool) (hn : n ≤ 7) (h : v.toNat < 2 ^ n) :
    (putBit v n b).toNat = v.toNat + b.toNat * 2 ^ n := by
  have hv : v.toNat < 128 := lt_of_lt_of_le h (by
    have : 2 ^ n ≤ 2 ^ 7 := Nat.pow_le_pow_right (by norm_num) hn
    simpa using this)
  obtain ⟨x, rfl⟩ : ∃ x : Fin 128, v = BitVec.ofNat 20 x := ⟨⟨v.toNat, hv⟩, by simp⟩
  revert x
  interval_cases n <;> cases b <;> decide

theorem storeByte_packed {e : Enc} (hw : e.out.wf = true) (hl : ∀ i < e.outBytes, (readByte e.out i).isSome)
    (hc : e.outBytes < e.outCap) (hn : e.nomem = false) : e.storeByte.Packed where
  outWf := by simpa using writeByte_wf _ _ hw
  outListed i hi := by
    simp only [Enc.storeByte_outBytes, Enc.storeByte_out] at *
    by_cases h : i = e.outBytes
    · subst h; simp
    · rw [readByte_writeByte_ne _ _ h]; exact hl i (by omega)
  outCap := hc
  accBits := by simp
  accClean := by simp
  nomemEmpty h := by simp [hn] at h

/-- One bit keeps them, where growth is at least one byte (R82). -/
theorem emitBit_packed {grow : Nat} (hg : 1 ≤ grow) (b : Bool) {e : Enc} (h : e.Packed) (hn : e.nomem = false) :
    (e.emitBit grow b).Packed := by
  unfold Enc.emitBit
  dsimp only
  have ha := h.accBits
  split
  · rcases completeByte_cases grow { e with acc := putBit e.acc e.accBits b, accBits := e.accBits + 1 } with
      ⟨hne, hs⟩ | ⟨heq, _, hs⟩ | ⟨_, _, hs⟩
    · rw [hs]
      exact storeByte_packed h.outWf h.outListed (lt_of_le_of_ne h.outCap hne) hn
    · rw [hs]
      exact storeByte_packed h.outWf h.outListed (by dsimp only at *; omega) hn
    · rw [hs]
      exact ⟨h.outWf, h.outListed, h.outCap, by simp, by simp, by simp⟩
  · rename_i h8
    refine ⟨h.outWf, h.outListed, h.outCap, by dsimp only at *; omega, ?_, fun hx => by simp [hn] at hx⟩
    dsimp only
    rw [putBit_clean b ha h.accClean, Nat.pow_succ]
    have := h.accClean
    cases b <;> simp <;> omega

theorem emitBits_packed {grow : Nat} (hg : 1 ≤ grow) (s : List Bool) {e : Enc} (h : e.Packed) :
    (e.emitBits grow s).Packed := by
  induction s generalizing e with
  | nil => exact h
  | cons b s ih =>
    unfold Enc.emitBits
    split
    · exact h
    · rename_i hn
      exact ih (emitBit_packed hg b h (Bool.eq_false_of_not_eq_true hn))

theorem emit_packed {grow : Nat} (hg : 1 ≤ grow) (s : List Bool) {e : Enc} (h : e.Packed) :
    (e.emit grow s).Packed := by
  unfold Enc.emit
  split
  · exact h
  · have hs := emitBits_packed hg s h
    dsimp only
    split
    · exact hs
    · exact ⟨hs.outWf, hs.outListed, hs.outCap, hs.accBits, hs.accClean, hs.nomemEmpty⟩

theorem emitAll_packed {grow : Nat} (hg : 1 ≤ grow) (ss : List (List Bool)) {e : Enc} (h : e.Packed) :
    (e.emitAll grow ss).Packed := by
  induction ss generalizing e with
  | nil => exact h
  | cons s ss ih => exact ih (emit_packed hg s h)

theorem fill_packed {pg : TxPage} (hg : 1 ≤ pg.outGrow) {e : Enc} (h : e.Packed) : (e.fill pg).Packed := by
  unfold Enc.fill
  split
  · exact emitAll_packed hg _ h
  · exact h

/-! ## The pieces of a fill (R141) -/

/-- The pieces of a fill are its zeros, in order. -/
theorem fillPieces_flatten (n : Nat) : (fillPieces n).flatten = zeros n := by
  simp only [fillPieces, zeros, List.flatten_append, List.flatten_singleton, List.flatten_replicate_replicate,
    List.replicate_append_replicate]
  congr 1
  omega

/-- No piece of a fill is longer than an `emit` takes. -/
theorem fillPieces_length_le {n : Nat} {s : List Bool} (h : s ∈ fillPieces n) : s.length ≤ 13 := by
  rcases List.mem_append.mp h with h | h
  · rw [List.eq_of_mem_replicate h]; rfl
  · rw [List.mem_singleton.mp h, zeros, List.length_replicate]; omega

/-! ## A row, the page's end, a pull -/

/-- A row that is encoded (R178): `u` is the encoder after the row's bits and its fill; only `enc.rows` can stop it. -/
theorem encodeRow_eq_next {pg : TxPage} {buf : List Byte} {e t : Enc} (h : e.encodeRow pg buf = .next t) :
    ∃ u, u = (Enc.emitAll pg.outGrow
          (rowFrame pg.mode (rowIs2d pg.mode e.rowsTo1d) ++
            (rowCodes (rowIs2d pg.mode e.rowsTo1d) (unpack buf pg.w) (expand e.refRuns pg.w)).map codeBits)
          { e with
            curRow := buf
            curRuns := runLengthsOfRow buf pg.w
            rowBits := 0
            rowsTo1d := countdownAfter pg e.rowsTo1d }).fill pg ∧
      Enc.EmitFrame { e with
            curRow := buf
            curRuns := runLengthsOfRow buf pg.w
            rowBits := 0
            rowsTo1d := countdownAfter pg e.rowsTo1d } u ∧
      u.rows + 1 < Config.wordLimit ∧
      t = { u with page := u.page.countBits u.rowBits, refRuns := u.curRuns, curRuns := [], rows := u.rows + 1 } := by
  refine ⟨_, rfl, (emitAll_frame ..).trans (fill_frame ..), ?_⟩
  unfold Enc.encodeRow at h
  dsimp only at h
  split at h
  · exact ⟨of_decide_eq_true ‹_›, (Host.Outcome.next.inj h).symm⟩
  · cases h

/-- An answer of the row source (R313): the page's next scripted one, or the free value of the page and the call; either way
one call more, in the same page. -/
theorem answer_cases (bpr : Nat) (src : RowSource) :
    (∃ a rest, src.script = a :: rest ∧
      src.answer bpr = (a, { src with script := rest, calls := src.calls + 1 })) ∨
    (src.script = [] ∧ src.answer bpr = (freeRowAnswer bpr src.page src.calls, { src with calls := src.calls + 1 })) := by
  unfold RowSource.answer
  split
  · exact .inl ⟨_, _, ‹_›, rfl⟩
  · exact .inr ⟨‹_›, rfl⟩

/-- One pull that answers (R177, R185, R186): the page's end, a read error, or a row. -/
theorem takeAnswer_eq_next {pg : TxPage} {ans : RowAnswer} {e t : Enc} (h : e.takeAnswer pg ans = .next t) :
    (ans.count = 0 ∧ t = Enc.terminatePage pg { e with srcDone := true }) ∨
    (ans.count < 0 ∧ t = Enc.terminatePage pg { e with srcDone := true, rowReadError := true }) ∨
    (ans.count = bytesPerRow pg.w ∧ ans.bytes.length = bytesPerRow pg.w ∧
      ∃ u, e.encodeRow pg ans.bytes = .next u ∧ t = if u.nomem then { u with termDone := true } else u) := by
  unfold Enc.takeAnswer at h
  split at h
  · exact .inl ⟨‹_›, by simpa using h.symm⟩
  · split at h
    · exact .inr (.inl ⟨‹_›, by simpa using h.symm⟩)
    · split at h
      · rename_i hc
        obtain ⟨u, hu, h⟩ := andThen_eq_next h
        exact .inr (.inr ⟨hc.1, hc.2, u, hu, by simpa using h.symm⟩)
      · cases h

/-- The page's end changes what an emission changes, and `term_done` (R181, R182). -/
theorem terminatePage_frame (pg : TxPage) (e : Enc) :
    Enc.EmitFrame { e with termDone := true } (e.terminatePage pg) := by
  have h := (emitAll_frame pg.outGrow ((terminatorCodes pg.mode).map codeBits) e).trans (pad_frame pg.outGrow _)
  unfold Enc.EmitFrame at *
  unfold Enc.terminatePage
  rw [h]

/-- `ensure` (R187): it answers what its pulls answer; where the bit is there or the page has ended, it pulls nothing. -/
theorem ensure_stop {pg : TxPage} {k : Nat} {e : Enc} (h : k < e.emitted ∨ e.termDone = true) :
    e.ensure pg k = .next e := by
  unfold Enc.ensure
  cases k + 1 - e.emitted with
  | zero => rfl
  | succ n =>
    unfold Enc.ensureLoop
    rw [if_neg]
    rcases h with h | h
    · simp [Nat.not_le.mpr h]
    · simp [h]

/-- Any fact that every pull keeps, `ensure` keeps (R187). -/
theorem ensureLoop_keeps {P : Enc → Prop} {pg : TxPage}
    (hp : ∀ e t, P e → e.termDone = false → e.encodeNextRow pg = .next t → P t) (k fuel : Nat) {e t : Enc} (he : P e)
    (h : Enc.ensureLoop pg k fuel e = .next t) : P t := by
  induction fuel generalizing e with
  | zero => exact Host.Outcome.next.inj h ▸ he
  | succ n ih =>
    unfold Enc.ensureLoop at h
    split at h
    · rename_i hc
      obtain ⟨u, hu, h⟩ := andThen_eq_next h
      exact ih (hp e u he (by simpa using (Bool.and_eq_true_iff.mp hc).2) hu) h
    · exact Host.Outcome.next.inj h ▸ he

theorem ensure_keeps {P : Enc → Prop} {pg : TxPage}
    (hp : ∀ e t, P e → e.termDone = false → e.encodeNextRow pg = .next t → P t) (k : Nat) {e t : Enc} (he : P e)
    (h : e.ensure pg k = .next t) : P t := ensureLoop_keeps hp k _ he h

end Sys2Proof.Machine
end

