-- ==== Sys2Proof/Laws/PerInstr.lean ====
section
/-! SUPPORT. The family `WordForm`, one lemma per instruction: the form of its words. -/

namespace Sys2Proof.Laws.WordForm

open Sys2Proof.Machine

/-- A code word is 1 to 13 bits long and no command of the transmit channel (R90); a host command has `op[7:5] = 0`, and
`op[4]` selects its channel (R107). -/
def Statement (i : Instr) : Prop :=
  match encode i with
  | .code bits => (1 ≤ bits.length ∧ bits.length ≤ 13) ∧ isTx i = false
  | .command c => c.op.toNat < 32 ∧ c.op[4] = !isTx i

theorem wt0 : Statement .wt0 := ⟨of_decide_eq_true rfl, rfl⟩

theorem wt1 : Statement .wt1 := ⟨of_decide_eq_true rfl, rfl⟩

theorem wt2 : Statement .wt2 := ⟨of_decide_eq_true rfl, rfl⟩

theorem wt3 : Statement .wt3 := ⟨of_decide_eq_true rfl, rfl⟩

theorem wt4 : Statement .wt4 := ⟨of_decide_eq_true rfl, rfl⟩

theorem wt5 : Statement .wt5 := ⟨of_decide_eq_true rfl, rfl⟩

theorem wt6 : Statement .wt6 := ⟨of_decide_eq_true rfl, rfl⟩

theorem wt7 : Statement .wt7 := ⟨of_decide_eq_true rfl, rfl⟩

theorem wt8 : Statement .wt8 := ⟨of_decide_eq_true rfl, rfl⟩

theorem wt9 : Statement .wt9 := ⟨of_decide_eq_true rfl, rfl⟩

theorem wt10 : Statement .wt10 := ⟨of_decide_eq_true rfl, rfl⟩

theorem wt11 : Statement .wt11 := ⟨of_decide_eq_true rfl, rfl⟩

theorem wt12 : Statement .wt12 := ⟨of_decide_eq_true rfl, rfl⟩

theorem wt13 : Statement .wt13 := ⟨of_decide_eq_true rfl, rfl⟩

theorem wt14 : Statement .wt14 := ⟨of_decide_eq_true rfl, rfl⟩

theorem wt15 : Statement .wt15 := ⟨of_decide_eq_true rfl, rfl⟩

theorem wt16 : Statement .wt16 := ⟨of_decide_eq_true rfl, rfl⟩

theorem wt17 : Statement .wt17 := ⟨of_decide_eq_true rfl, rfl⟩

theorem wt18 : Statement .wt18 := ⟨of_decide_eq_true rfl, rfl⟩

theorem wt19 : Statement .wt19 := ⟨of_decide_eq_true rfl, rfl⟩

theorem wt20 : Statement .wt20 := ⟨of_decide_eq_true rfl, rfl⟩

theorem wt21 : Statement .wt21 := ⟨of_decide_eq_true rfl, rfl⟩

theorem wt22 : Statement .wt22 := ⟨of_decide_eq_true rfl, rfl⟩

theorem wt23 : Statement .wt23 := ⟨of_decide_eq_true rfl, rfl⟩

theorem wt24 : Statement .wt24 := ⟨of_decide_eq_true rfl, rfl⟩

theorem wt25 : Statement .wt25 := ⟨of_decide_eq_true rfl, rfl⟩

theorem wt26 : Statement .wt26 := ⟨of_decide_eq_true rfl, rfl⟩

theorem wt27 : Statement .wt27 := ⟨of_decide_eq_true rfl, rfl⟩

theorem wt28 : Statement .wt28 := ⟨of_decide_eq_true rfl, rfl⟩

theorem wt29 : Statement .wt29 := ⟨of_decide_eq_true rfl, rfl⟩

theorem wt30 : Statement .wt30 := ⟨of_decide_eq_true rfl, rfl⟩

theorem wt31 : Statement .wt31 := ⟨of_decide_eq_true rfl, rfl⟩

theorem wt32 : Statement .wt32 := ⟨of_decide_eq_true rfl, rfl⟩

theorem wt33 : Statement .wt33 := ⟨of_decide_eq_true rfl, rfl⟩

theorem wt34 : Statement .wt34 := ⟨of_decide_eq_true rfl, rfl⟩

theorem wt35 : Statement .wt35 := ⟨of_decide_eq_true rfl, rfl⟩

theorem wt36 : Statement .wt36 := ⟨of_decide_eq_true rfl, rfl⟩

theorem wt37 : Statement .wt37 := ⟨of_decide_eq_true rfl, rfl⟩

theorem wt38 : Statement .wt38 := ⟨of_decide_eq_true rfl, rfl⟩

theorem wt39 : Statement .wt39 := ⟨of_decide_eq_true rfl, rfl⟩

theorem wt40 : Statement .wt40 := ⟨of_decide_eq_true rfl, rfl⟩

theorem wt41 : Statement .wt41 := ⟨of_decide_eq_true rfl, rfl⟩

theorem wt42 : Statement .wt42 := ⟨of_decide_eq_true rfl, rfl⟩

theorem wt43 : Statement .wt43 := ⟨of_decide_eq_true rfl, rfl⟩

theorem wt44 : Statement .wt44 := ⟨of_decide_eq_true rfl, rfl⟩

theorem wt45 : Statement .wt45 := ⟨of_decide_eq_true rfl, rfl⟩

theorem wt46 : Statement .wt46 := ⟨of_decide_eq_true rfl, rfl⟩

theorem wt47 : Statement .wt47 := ⟨of_decide_eq_true rfl, rfl⟩

theorem wt48 : Statement .wt48 := ⟨of_decide_eq_true rfl, rfl⟩

theorem wt49 : Statement .wt49 := ⟨of_decide_eq_true rfl, rfl⟩

theorem wt50 : Statement .wt50 := ⟨of_decide_eq_true rfl, rfl⟩

theorem wt51 : Statement .wt51 := ⟨of_decide_eq_true rfl, rfl⟩

theorem wt52 : Statement .wt52 := ⟨of_decide_eq_true rfl, rfl⟩

theorem wt53 : Statement .wt53 := ⟨of_decide_eq_true rfl, rfl⟩

theorem wt54 : Statement .wt54 := ⟨of_decide_eq_true rfl, rfl⟩

theorem wt55 : Statement .wt55 := ⟨of_decide_eq_true rfl, rfl⟩

theorem wt56 : Statement .wt56 := ⟨of_decide_eq_true rfl, rfl⟩

theorem wt57 : Statement .wt57 := ⟨of_decide_eq_true rfl, rfl⟩

theorem wt58 : Statement .wt58 := ⟨of_decide_eq_true rfl, rfl⟩

theorem wt59 : Statement .wt59 := ⟨of_decide_eq_true rfl, rfl⟩

theorem wt60 : Statement .wt60 := ⟨of_decide_eq_true rfl, rfl⟩

theorem wt61 : Statement .wt61 := ⟨of_decide_eq_true rfl, rfl⟩

theorem wt62 : Statement .wt62 := ⟨of_decide_eq_true rfl, rfl⟩

theorem wt63 : Statement .wt63 := ⟨of_decide_eq_true rfl, rfl⟩

theorem bt0 : Statement .bt0 := ⟨of_decide_eq_true rfl, rfl⟩

theorem bt1 : Statement .bt1 := ⟨of_decide_eq_true rfl, rfl⟩

theorem bt2 : Statement .bt2 := ⟨of_decide_eq_true rfl, rfl⟩

theorem bt3 : Statement .bt3 := ⟨of_decide_eq_true rfl, rfl⟩

theorem bt4 : Statement .bt4 := ⟨of_decide_eq_true rfl, rfl⟩

theorem bt5 : Statement .bt5 := ⟨of_decide_eq_true rfl, rfl⟩

theorem bt6 : Statement .bt6 := ⟨of_decide_eq_true rfl, rfl⟩

theorem bt7 : Statement .bt7 := ⟨of_decide_eq_true rfl, rfl⟩

theorem bt8 : Statement .bt8 := ⟨of_decide_eq_true rfl, rfl⟩

theorem bt9 : Statement .bt9 := ⟨of_decide_eq_true rfl, rfl⟩

theorem bt10 : Statement .bt10 := ⟨of_decide_eq_true rfl, rfl⟩

theorem bt11 : Statement .bt11 := ⟨of_decide_eq_true rfl, rfl⟩

theorem bt12 : Statement .bt12 := ⟨of_decide_eq_true rfl, rfl⟩

theorem bt13 : Statement .bt13 := ⟨of_decide_eq_true rfl, rfl⟩

theorem bt14 : Statement .bt14 := ⟨of_decide_eq_true rfl, rfl⟩

theorem bt15 : Statement .bt15 := ⟨of_decide_eq_true rfl, rfl⟩

theorem bt16 : Statement .bt16 := ⟨of_decide_eq_true rfl, rfl⟩

theorem bt17 : Statement .bt17 := ⟨of_decide_eq_true rfl, rfl⟩

theorem bt18 : Statement .bt18 := ⟨of_decide_eq_true rfl, rfl⟩

theorem bt19 : Statement .bt19 := ⟨of_decide_eq_true rfl, rfl⟩

theorem bt20 : Statement .bt20 := ⟨of_decide_eq_true rfl, rfl⟩

theorem bt21 : Statement .bt21 := ⟨of_decide_eq_true rfl, rfl⟩

theorem bt22 : Statement .bt22 := ⟨of_decide_eq_true rfl, rfl⟩

theorem bt23 : Statement .bt23 := ⟨of_decide_eq_true rfl, rfl⟩

theorem bt24 : Statement .bt24 := ⟨of_decide_eq_true rfl, rfl⟩

theorem bt25 : Statement .bt25 := ⟨of_decide_eq_true rfl, rfl⟩

theorem bt26 : Statement .bt26 := ⟨of_decide_eq_true rfl, rfl⟩

theorem bt27 : Statement .bt27 := ⟨of_decide_eq_true rfl, rfl⟩

theorem bt28 : Statement .bt28 := ⟨of_decide_eq_true rfl, rfl⟩

theorem bt29 : Statement .bt29 := ⟨of_decide_eq_true rfl, rfl⟩

theorem bt30 : Statement .bt30 := ⟨of_decide_eq_true rfl, rfl⟩

theorem bt31 : Statement .bt31 := ⟨of_decide_eq_true rfl, rfl⟩

theorem bt32 : Statement .bt32 := ⟨of_decide_eq_true rfl, rfl⟩

theorem bt33 : Statement .bt33 := ⟨of_decide_eq_true rfl, rfl⟩

theorem bt34 : Statement .bt34 := ⟨of_decide_eq_true rfl, rfl⟩

theorem bt35 : Statement .bt35 := ⟨of_decide_eq_true rfl, rfl⟩

theorem bt36 : Statement .bt36 := ⟨of_decide_eq_true rfl, rfl⟩

theorem bt37 : Statement .bt37 := ⟨of_decide_eq_true rfl, rfl⟩

theorem bt38 : Statement .bt38 := ⟨of_decide_eq_true rfl, rfl⟩

theorem bt39 : Statement .bt39 := ⟨of_decide_eq_true rfl, rfl⟩

theorem bt40 : Statement .bt40 := ⟨of_decide_eq_true rfl, rfl⟩

theorem bt41 : Statement .bt41 := ⟨of_decide_eq_true rfl, rfl⟩

theorem bt42 : Statement .bt42 := ⟨of_decide_eq_true rfl, rfl⟩

theorem bt43 : Statement .bt43 := ⟨of_decide_eq_true rfl, rfl⟩

theorem bt44 : Statement .bt44 := ⟨of_decide_eq_true rfl, rfl⟩

theorem bt45 : Statement .bt45 := ⟨of_decide_eq_true rfl, rfl⟩

theorem bt46 : Statement .bt46 := ⟨of_decide_eq_true rfl, rfl⟩

theorem bt47 : Statement .bt47 := ⟨of_decide_eq_true rfl, rfl⟩

theorem bt48 : Statement .bt48 := ⟨of_decide_eq_true rfl, rfl⟩

theorem bt49 : Statement .bt49 := ⟨of_decide_eq_true rfl, rfl⟩

theorem bt50 : Statement .bt50 := ⟨of_decide_eq_true rfl, rfl⟩

theorem bt51 : Statement .bt51 := ⟨of_decide_eq_true rfl, rfl⟩

theorem bt52 : Statement .bt52 := ⟨of_decide_eq_true rfl, rfl⟩

theorem bt53 : Statement .bt53 := ⟨of_decide_eq_true rfl, rfl⟩

theorem bt54 : Statement .bt54 := ⟨of_decide_eq_true rfl, rfl⟩

theorem bt55 : Statement .bt55 := ⟨of_decide_eq_true rfl, rfl⟩

theorem bt56 : Statement .bt56 := ⟨of_decide_eq_true rfl, rfl⟩

theorem bt57 : Statement .bt57 := ⟨of_decide_eq_true rfl, rfl⟩

theorem bt58 : Statement .bt58 := ⟨of_decide_eq_true rfl, rfl⟩

theorem bt59 : Statement .bt59 := ⟨of_decide_eq_true rfl, rfl⟩

theorem bt60 : Statement .bt60 := ⟨of_decide_eq_true rfl, rfl⟩

theorem bt61 : Statement .bt61 := ⟨of_decide_eq_true rfl, rfl⟩

theorem bt62 : Statement .bt62 := ⟨of_decide_eq_true rfl, rfl⟩

theorem bt63 : Statement .bt63 := ⟨of_decide_eq_true rfl, rfl⟩

theorem wm64 : Statement .wm64 := ⟨of_decide_eq_true rfl, rfl⟩

theorem wm128 : Statement .wm128 := ⟨of_decide_eq_true rfl, rfl⟩

theorem wm192 : Statement .wm192 := ⟨of_decide_eq_true rfl, rfl⟩

theorem wm256 : Statement .wm256 := ⟨of_decide_eq_true rfl, rfl⟩

theorem wm320 : Statement .wm320 := ⟨of_decide_eq_true rfl, rfl⟩

theorem wm384 : Statement .wm384 := ⟨of_decide_eq_true rfl, rfl⟩

theorem wm448 : Statement .wm448 := ⟨of_decide_eq_true rfl, rfl⟩

theorem wm512 : Statement .wm512 := ⟨of_decide_eq_true rfl, rfl⟩

theorem wm576 : Statement .wm576 := ⟨of_decide_eq_true rfl, rfl⟩

theorem wm640 : Statement .wm640 := ⟨of_decide_eq_true rfl, rfl⟩

theorem wm704 : Statement .wm704 := ⟨of_decide_eq_true rfl, rfl⟩

theorem wm768 : Statement .wm768 := ⟨of_decide_eq_true rfl, rfl⟩

theorem wm832 : Statement .wm832 := ⟨of_decide_eq_true rfl, rfl⟩

theorem wm896 : Statement .wm896 := ⟨of_decide_eq_true rfl, rfl⟩

theorem wm960 : Statement .wm960 := ⟨of_decide_eq_true rfl, rfl⟩

theorem wm1024 : Statement .wm1024 := ⟨of_decide_eq_true rfl, rfl⟩

theorem wm1088 : Statement .wm1088 := ⟨of_decide_eq_true rfl, rfl⟩

theorem wm1152 : Statement .wm1152 := ⟨of_decide_eq_true rfl, rfl⟩

theorem wm1216 : Statement .wm1216 := ⟨of_decide_eq_true rfl, rfl⟩

theorem wm1280 : Statement .wm1280 := ⟨of_decide_eq_true rfl, rfl⟩

theorem wm1344 : Statement .wm1344 := ⟨of_decide_eq_true rfl, rfl⟩

theorem wm1408 : Statement .wm1408 := ⟨of_decide_eq_true rfl, rfl⟩

theorem wm1472 : Statement .wm1472 := ⟨of_decide_eq_true rfl, rfl⟩

theorem wm1536 : Statement .wm1536 := ⟨of_decide_eq_true rfl, rfl⟩

theorem wm1600 : Statement .wm1600 := ⟨of_decide_eq_true rfl, rfl⟩

theorem wm1664 : Statement .wm1664 := ⟨of_decide_eq_true rfl, rfl⟩

theorem wm1728 : Statement .wm1728 := ⟨of_decide_eq_true rfl, rfl⟩

theorem bm64 : Statement .bm64 := ⟨of_decide_eq_true rfl, rfl⟩

theorem bm128 : Statement .bm128 := ⟨of_decide_eq_true rfl, rfl⟩

theorem bm192 : Statement .bm192 := ⟨of_decide_eq_true rfl, rfl⟩

theorem bm256 : Statement .bm256 := ⟨of_decide_eq_true rfl, rfl⟩

theorem bm320 : Statement .bm320 := ⟨of_decide_eq_true rfl, rfl⟩

theorem bm384 : Statement .bm384 := ⟨of_decide_eq_true rfl, rfl⟩

theorem bm448 : Statement .bm448 := ⟨of_decide_eq_true rfl, rfl⟩

theorem bm512 : Statement .bm512 := ⟨of_decide_eq_true rfl, rfl⟩

theorem bm576 : Statement .bm576 := ⟨of_decide_eq_true rfl, rfl⟩

theorem bm640 : Statement .bm640 := ⟨of_decide_eq_true rfl, rfl⟩

theorem bm704 : Statement .bm704 := ⟨of_decide_eq_true rfl, rfl⟩

theorem bm768 : Statement .bm768 := ⟨of_decide_eq_true rfl, rfl⟩

theorem bm832 : Statement .bm832 := ⟨of_decide_eq_true rfl, rfl⟩

theorem bm896 : Statement .bm896 := ⟨of_decide_eq_true rfl, rfl⟩

theorem bm960 : Statement .bm960 := ⟨of_decide_eq_true rfl, rfl⟩

theorem bm1024 : Statement .bm1024 := ⟨of_decide_eq_true rfl, rfl⟩

theorem bm1088 : Statement .bm1088 := ⟨of_decide_eq_true rfl, rfl⟩

theorem bm1152 : Statement .bm1152 := ⟨of_decide_eq_true rfl, rfl⟩

theorem bm1216 : Statement .bm1216 := ⟨of_decide_eq_true rfl, rfl⟩

theorem bm1280 : Statement .bm1280 := ⟨of_decide_eq_true rfl, rfl⟩

theorem bm1344 : Statement .bm1344 := ⟨of_decide_eq_true rfl, rfl⟩

theorem bm1408 : Statement .bm1408 := ⟨of_decide_eq_true rfl, rfl⟩

theorem bm1472 : Statement .bm1472 := ⟨of_decide_eq_true rfl, rfl⟩

theorem bm1536 : Statement .bm1536 := ⟨of_decide_eq_true rfl, rfl⟩

theorem bm1600 : Statement .bm1600 := ⟨of_decide_eq_true rfl, rfl⟩

theorem bm1664 : Statement .bm1664 := ⟨of_decide_eq_true rfl, rfl⟩

theorem bm1728 : Statement .bm1728 := ⟨of_decide_eq_true rfl, rfl⟩

theorem xm1792 : Statement .xm1792 := ⟨of_decide_eq_true rfl, rfl⟩

theorem xm1856 : Statement .xm1856 := ⟨of_decide_eq_true rfl, rfl⟩

theorem xm1920 : Statement .xm1920 := ⟨of_decide_eq_true rfl, rfl⟩

theorem xm1984 : Statement .xm1984 := ⟨of_decide_eq_true rfl, rfl⟩

theorem xm2048 : Statement .xm2048 := ⟨of_decide_eq_true rfl, rfl⟩

theorem xm2112 : Statement .xm2112 := ⟨of_decide_eq_true rfl, rfl⟩

theorem xm2176 : Statement .xm2176 := ⟨of_decide_eq_true rfl, rfl⟩

theorem xm2240 : Statement .xm2240 := ⟨of_decide_eq_true rfl, rfl⟩

theorem xm2304 : Statement .xm2304 := ⟨of_decide_eq_true rfl, rfl⟩

theorem xm2368 : Statement .xm2368 := ⟨of_decide_eq_true rfl, rfl⟩

theorem xm2432 : Statement .xm2432 := ⟨of_decide_eq_true rfl, rfl⟩

theorem xm2496 : Statement .xm2496 := ⟨of_decide_eq_true rfl, rfl⟩

theorem xm2560 : Statement .xm2560 := ⟨of_decide_eq_true rfl, rfl⟩

theorem pass : Statement .pass := ⟨of_decide_eq_true rfl, rfl⟩

theorem horiz : Statement .horiz := ⟨of_decide_eq_true rfl, rfl⟩

theorem v0 : Statement .v0 := ⟨of_decide_eq_true rfl, rfl⟩

theorem vr1 : Statement .vr1 := ⟨of_decide_eq_true rfl, rfl⟩

theorem vr2 : Statement .vr2 := ⟨of_decide_eq_true rfl, rfl⟩

theorem vr3 : Statement .vr3 := ⟨of_decide_eq_true rfl, rfl⟩

theorem vl1 : Statement .vl1 := ⟨of_decide_eq_true rfl, rfl⟩

theorem vl2 : Statement .vl2 := ⟨of_decide_eq_true rfl, rfl⟩

theorem vl3 : Statement .vl3 := ⟨of_decide_eq_true rfl, rfl⟩

theorem ext2d : Statement .ext2d := ⟨of_decide_eq_true rfl, rfl⟩

theorem null2d : Statement .null2d := ⟨of_decide_eq_true rfl, rfl⟩

theorem eol : Statement .eol := ⟨of_decide_eq_true rfl, rfl⟩

theorem eol1 : Statement .eol1 := ⟨of_decide_eq_true rfl, rfl⟩

theorem eol0 : Statement .eol0 := ⟨of_decide_eq_true rfl, rfl⟩

theorem txInit : Statement .txInit := ⟨of_decide_eq_true rfl, rfl⟩

theorem txRelease : Statement .txRelease := ⟨of_decide_eq_true rfl, rfl⟩

theorem txSetMode (mode : BitVec 2) : Statement (.txSetMode mode) :=
  ⟨show (0x3 : Byte).toNat < 32 by decide, show (0x3 : Byte)[4] = false by decide⟩

theorem txSetWidth (width : Word) : Statement (.txSetWidth width) :=
  ⟨show (0x4 : Byte).toNat < 32 by decide, show (0x4 : Byte)[4] = false by decide⟩

theorem txSetXres (code : Word) : Statement (.txSetXres code) :=
  ⟨show (0x5 : Byte).toNat < 32 by decide, show (0x5 : Byte)[4] = false by decide⟩

theorem txSetYres (code : Word) : Statement (.txSetYres code) :=
  ⟨show (0x6 : Byte).toNat < 32 by decide, show (0x6 : Byte)[4] = false by decide⟩

theorem txSetMinRowBits (bits : Word) : Statement (.txSetMinRowBits bits) :=
  ⟨show (0x7 : Byte).toNat < 32 by decide, show (0x7 : Byte)[4] = false by decide⟩

theorem txStartPage : Statement .txStartPage := ⟨of_decide_eq_true rfl, rfl⟩

theorem txEndPage : Statement .txEndPage := ⟨of_decide_eq_true rfl, rfl⟩

theorem txRestartPage : Statement .txRestartPage := ⟨of_decide_eq_true rfl, rfl⟩

theorem txNextPageDifferent : Statement .txNextPageDifferent := ⟨of_decide_eq_true rfl, rfl⟩

theorem txGetBit : Statement .txGetBit := ⟨of_decide_eq_true rfl, rfl⟩

theorem txGetByte : Statement .txGetByte := ⟨of_decide_eq_true rfl, rfl⟩

theorem txGetChunk (maxLen : Word) (buf : List Byte) : Statement (.txGetChunk maxLen buf) :=
  ⟨show (0xe : Byte).toNat < 32 by decide, show (0xe : Byte)[4] = false by decide⟩

theorem txGetStats : Statement .txGetStats := ⟨of_decide_eq_true rfl, rfl⟩

theorem rxInit : Statement .rxInit := ⟨of_decide_eq_true rfl, rfl⟩

theorem rxRelease : Statement .rxRelease := ⟨of_decide_eq_true rfl, rfl⟩

theorem rxSetMode (mode : BitVec 2) : Statement (.rxSetMode mode) :=
  ⟨show (0x13 : Byte).toNat < 32 by decide, show (0x13 : Byte)[4] = true by decide⟩

theorem rxSetWidth (width : Word) : Statement (.rxSetWidth width) :=
  ⟨show (0x14 : Byte).toNat < 32 by decide, show (0x14 : Byte)[4] = true by decide⟩

theorem rxSetXres (code : Word) : Statement (.rxSetXres code) :=
  ⟨show (0x15 : Byte).toNat < 32 by decide, show (0x15 : Byte)[4] = true by decide⟩

theorem rxSetYres (code : Word) : Statement (.rxSetYres code) :=
  ⟨show (0x16 : Byte).toNat < 32 by decide, show (0x16 : Byte)[4] = true by decide⟩

theorem rxStartPage : Statement .rxStartPage := ⟨of_decide_eq_true rfl, rfl⟩

theorem rxEndPage : Statement .rxEndPage := ⟨of_decide_eq_true rfl, rfl⟩

theorem rxPutBit (bit : Bool) : Statement (.rxPutBit bit) :=
  ⟨show (0x1c : Byte).toNat < 32 by decide, show (0x1c : Byte)[4] = true by decide⟩

theorem rxPutByte (byte : Byte) : Statement (.rxPutByte byte) :=
  ⟨show (0x1d : Byte).toNat < 32 by decide, show (0x1d : Byte)[4] = true by decide⟩

theorem rxPutChunk (len : Word) (buf : List Byte) : Statement (.rxPutChunk len buf) :=
  ⟨show (0x1e : Byte).toNat < 32 by decide, show (0x1e : Byte)[4] = true by decide⟩

theorem rxGetStats : Statement .rxGetStats := ⟨of_decide_eq_true rfl, rfl⟩

end Sys2Proof.Laws.WordForm
end

