-- ==== Sys2Proof/Tests/Slice0.lean ====
section
/-! SUPPORT. Tests: ill-formed operands, the decoding of every constructor's written word, worked examples of the spec, and
for every statement with hypotheses a concrete state and operands that meet them. -/

namespace Sys2Proof.Tests

open Sys2Proof.Machine

/-! ## Ill-formed terms are refused -/

theorem test_illFormed_txMode : (Instr.txSetMode 3).wellFormed = false := by decide
theorem test_illFormed_rxMode : (Instr.rxSetMode 3).wellFormed = false := by decide
theorem test_illFormed_txWidth : (Instr.txSetWidth 0).wellFormed = false := by decide
theorem test_illFormed_rxWidth : (Instr.rxSetWidth 0).wellFormed = false := by decide
theorem test_illFormed_maxLen : (Instr.txGetChunk 0x80000000 []).wellFormed = false := by decide
theorem test_illFormed_getBuffer : (Instr.txGetChunk 2 [0]).wellFormed = false := by decide
theorem test_illFormed_putBuffer : (Instr.rxPutChunk 2 [0]).wellFormed = false := by decide
theorem test_wellFormed : (Instr.txGetChunk 2 [0, 0]).wellFormed = true ∧ (Instr.rxSetWidth 1).wellFormed = true := by decide

/-! ## Every code word, written out as `30_encoding.md` prints it (first bit in time first) -/

/-- R93: length, the code as printed, the instruction. -/
def writtenWhiteTerm : List (Nat × Nat × Instr) :=
  [(8, 0b00110101, .wt0), (6, 0b000111, .wt1), (4, 0b0111, .wt2), (4, 0b1000, .wt3), (4, 0b1011, .wt4),
   (4, 0b1100, .wt5), (4, 0b1110, .wt6), (4, 0b1111, .wt7), (5, 0b10011, .wt8), (5, 0b10100, .wt9),
   (5, 0b00111, .wt10), (5, 0b01000, .wt11), (6, 0b001000, .wt12), (6, 0b000011, .wt13), (6, 0b110100, .wt14),
   (6, 0b110101, .wt15), (6, 0b101010, .wt16), (6, 0b101011, .wt17), (7, 0b0100111, .wt18), (7, 0b0001100, .wt19),
   (7, 0b0001000, .wt20), (7, 0b0010111, .wt21), (7, 0b0000011, .wt22), (7, 0b0000100, .wt23),
   (7, 0b0101000, .wt24), (7, 0b0101011, .wt25), (7, 0b0010011, .wt26), (7, 0b0100100, .wt27),
   (7, 0b0011000, .wt28), (8, 0b00000010, .wt29), (8, 0b00000011, .wt30), (8, 0b00011010, .wt31),
   (8, 0b00011011, .wt32), (8, 0b00010010, .wt33), (8, 0b00010011, .wt34), (8, 0b00010100, .wt35),
   (8, 0b00010101, .wt36), (8, 0b00010110, .wt37), (8, 0b00010111, .wt38), (8, 0b00101000, .wt39)] ++
  [(8, 0b00101001, .wt40), (8, 0b00101010, .wt41), (8, 0b00101011, .wt42), (8, 0b00101100, .wt43),
   (8, 0b00101101, .wt44), (8, 0b00000100, .wt45), (8, 0b00000101, .wt46), (8, 0b00001010, .wt47),
   (8, 0b00001011, .wt48), (8, 0b01010010, .wt49), (8, 0b01010011, .wt50), (8, 0b01010100, .wt51),
   (8, 0b01010101, .wt52), (8, 0b00100100, .wt53), (8, 0b00100101, .wt54), (8, 0b01011000, .wt55),
   (8, 0b01011001, .wt56), (8, 0b01011010, .wt57), (8, 0b01011011, .wt58), (8, 0b01001010, .wt59),
   (8, 0b01001011, .wt60), (8, 0b00110010, .wt61), (8, 0b00110011, .wt62), (8, 0b00110100, .wt63)]

/-- R94. -/
def writtenBlackTerm : List (Nat × Nat × Instr) :=
  [(10, 0b0000110111, .bt0), (3, 0b010, .bt1), (2, 0b11, .bt2), (2, 0b10, .bt3), (3, 0b011, .bt4),
   (4, 0b0011, .bt5), (4, 0b0010, .bt6), (5, 0b00011, .bt7), (6, 0b000101, .bt8), (6, 0b000100, .bt9),
   (7, 0b0000100, .bt10), (7, 0b0000101, .bt11), (7, 0b0000111, .bt12), (8, 0b00000100, .bt13),
   (8, 0b00000111, .bt14), (9, 0b000011000, .bt15), (10, 0b0000010111, .bt16), (10, 0b0000011000, .bt17),
   (10, 0b0000001000, .bt18), (11, 0b00001100111, .bt19), (11, 0b00001101000, .bt20), (11, 0b00001101100, .bt21),
   (11, 0b00000110111, .bt22), (11, 0b00000101000, .bt23), (11, 0b00000010111, .bt24), (11, 0b00000011000, .bt25),
   (12, 0b000011001010, .bt26), (12, 0b000011001011, .bt27), (12, 0b000011001100, .bt28),
   (12, 0b000011001101, .bt29), (12, 0b000001101000, .bt30), (12, 0b000001101001, .bt31),
   (12, 0b000001101010, .bt32), (12, 0b000001101011, .bt33), (12, 0b000011010010, .bt34),
   (12, 0b000011010011, .bt35), (12, 0b000011010100, .bt36), (12, 0b000011010101, .bt37),
   (12, 0b000011010110, .bt38), (12, 0b000011010111, .bt39)] ++
  [(12, 0b000001101100, .bt40), (12, 0b000001101101, .bt41), (12, 0b000011011010, .bt42),
   (12, 0b000011011011, .bt43), (12, 0b000001010100, .bt44), (12, 0b000001010101, .bt45),
   (12, 0b000001010110, .bt46), (12, 0b000001010111, .bt47), (12, 0b000001100100, .bt48),
   (12, 0b000001100101, .bt49), (12, 0b000001010010, .bt50), (12, 0b000001010011, .bt51),
   (12, 0b000000100100, .bt52), (12, 0b000000110111, .bt53), (12, 0b000000111000, .bt54),
   (12, 0b000000100111, .bt55), (12, 0b000000101000, .bt56), (12, 0b000001011000, .bt57),
   (12, 0b000001011001, .bt58), (12, 0b000000101011, .bt59), (12, 0b000000101100, .bt60),
   (12, 0b000001011010, .bt61), (12, 0b000001100110, .bt62), (12, 0b000001100111, .bt63)]

/-- R95. -/
def writtenWhiteMakeup : List (Nat × Nat × Instr) :=
  [(5, 0b11011, .wm64), (5, 0b10010, .wm128), (6, 0b010111, .wm192), (7, 0b0110111, .wm256),
   (8, 0b00110110, .wm320), (8, 0b00110111, .wm384), (8, 0b01100100, .wm448), (8, 0b01100101, .wm512),
   (8, 0b01101000, .wm576), (8, 0b01100111, .wm640), (9, 0b011001100, .wm704), (9, 0b011001101, .wm768),
   (9, 0b011010010, .wm832), (9, 0b011010011, .wm896), (9, 0b011010100, .wm960), (9, 0b011010101, .wm1024),
   (9, 0b011010110, .wm1088), (9, 0b011010111, .wm1152), (9, 0b011011000, .wm1216), (9, 0b011011001, .wm1280),
   (9, 0b011011010, .wm1344), (9, 0b011011011, .wm1408), (9, 0b010011000, .wm1472), (9, 0b010011001, .wm1536),
   (9, 0b010011010, .wm1600), (6, 0b011000, .wm1664), (9, 0b010011011, .wm1728)]

/-- R96. -/
def writtenBlackMakeup : List (Nat × Nat × Instr) :=
  [(10, 0b0000001111, .bm64), (12, 0b000011001000, .bm128), (12, 0b000011001001, .bm192),
   (12, 0b000001011011, .bm256), (12, 0b000000110011, .bm320), (12, 0b000000110100, .bm384),
   (12, 0b000000110101, .bm448), (13, 0b0000001101100, .bm512), (13, 0b0000001101101, .bm576),
   (13, 0b0000001001010, .bm640), (13, 0b0000001001011, .bm704), (13, 0b0000001001100, .bm768),
   (13, 0b0000001001101, .bm832), (13, 0b0000001110010, .bm896), (13, 0b0000001110011, .bm960),
   (13, 0b0000001110100, .bm1024), (13, 0b0000001110101, .bm1088), (13, 0b0000001110110, .bm1152),
   (13, 0b0000001110111, .bm1216), (13, 0b0000001010010, .bm1280), (13, 0b0000001010011, .bm1344),
   (13, 0b0000001010100, .bm1408), (13, 0b0000001010101, .bm1472), (13, 0b0000001011010, .bm1536),
   (13, 0b0000001011011, .bm1600), (13, 0b0000001100100, .bm1664), (13, 0b0000001100101, .bm1728)]

/-- R97. -/
def writtenExtMakeup : List (Nat × Nat × Instr) :=
  [(11, 0b00000001000, .xm1792), (11, 0b00000001100, .xm1856), (11, 0b00000001101, .xm1920),
   (12, 0b000000010010, .xm1984), (12, 0b000000010011, .xm2048), (12, 0b000000010100, .xm2112),
   (12, 0b000000010101, .xm2176), (12, 0b000000010110, .xm2240), (12, 0b000000010111, .xm2304),
   (12, 0b000000011100, .xm2368), (12, 0b000000011101, .xm2432), (12, 0b000000011110, .xm2496),
   (12, 0b000000011111, .xm2560)]

/-- R98 and the `Null` value of R99. -/
def writtenModes : List (Nat × Nat × Instr) :=
  [(4, 0b0001, .pass), (3, 0b001, .horiz), (1, 0b1, .v0), (3, 0b011, .vr1), (6, 0b000011, .vr2),
   (7, 0b0000011, .vr3), (3, 0b010, .vl1), (6, 0b000010, .vl2), (7, 0b0000010, .vl3), (7, 0b0000001, .ext2d),
   (7, 0b0000000, .null2d)]

/-- What a window that begins with a written word decodes to. -/
def reads (c : Context) (x : Nat × Nat × Instr) : Bool :=
  match decodeCode c (BitVec.ofNat 13 (windowValue (transmit x.1 x.2.1))) with
  | .ok i => i == x.2.2
  | .error _ => false

theorem test_decode_whiteTerm : writtenWhiteTerm.all (reads (.run .white)) = true := by decide
theorem test_decode_blackTerm : writtenBlackTerm.all (reads (.run .black)) = true := by decide
theorem test_decode_whiteMakeup : writtenWhiteMakeup.all (reads (.run .white)) = true := by decide
theorem test_decode_blackMakeup : writtenBlackMakeup.all (reads (.run .black)) = true := by decide
theorem test_decode_extMakeup :
    writtenExtMakeup.all (fun x => reads (.run .white) x && reads (.run .black) x) = true := by decide
theorem test_decode_modes : writtenModes.all (reads .mode2d) = true := by decide
theorem test_decode_eol : reads (.eol false) (12, 0b000000000001, .eol) = true := by decide
theorem test_decode_eol1 : reads (.eol true) (13, 0b0000000000011, .eol1) = true := by decide
theorem test_decode_eol0 : reads (.eol true) (13, 0b0000000000010, .eol0) = true := by decide

/-- The host commands, opcode and operand as R108 lists them. -/
def writtenCommands : List (Nat × Nat × Instr) :=
  [(0x01, 0, .txInit), (0x02, 0, .txRelease), (0x03, 2, .txSetMode 2), (0x04, 1728, .txSetWidth 1728),
   (0x05, 204, .txSetXres 204), (0x06, 200, .txSetYres 200), (0x07, 40, .txSetMinRowBits 40), (0x08, 0, .txStartPage),
   (0x09, 0, .txEndPage), (0x0A, 0, .txRestartPage), (0x0B, 0, .txNextPageDifferent), (0x0C, 0, .txGetBit),
   (0x0D, 0, .txGetByte), (0x0E, 1, .txGetChunk 1 [0xA5]), (0x0F, 0, .txGetStats), (0x11, 0, .rxInit),
   (0x12, 0, .rxRelease), (0x13, 1, .rxSetMode 1), (0x14, 8, .rxSetWidth 8), (0x15, 204, .rxSetXres 204),
   (0x16, 98, .rxSetYres 98), (0x18, 0, .rxStartPage), (0x19, 0, .rxEndPage), (0x1C, 1, .rxPutBit true),
   (0x1D, 0x1A5, .rxPutByte 0xA5), (0x1E, 1, .rxPutChunk 1 [0xA5]), (0x1F, 0, .rxGetStats)]

theorem test_decode_commands :
    (writtenCommands.all fun x =>
      match decodeCommand ⟨BitVec.ofNat 8 x.1, BitVec.ofNat 32 x.2.1, [0xA5]⟩ with
      | .ok i => i == x.2.2
      | .error _ => false) = true := by decide
theorem test_decode_reserved : decodeCommand ⟨0x17, 0, []⟩ = .error (.reservedOpcode 0x17) := by decide
theorem test_decode_unmatched : decodeCode (.run .black) 0b0000100000000 = .error .unmatched1d := by decide

/-! ## States for the tests -/

/-- The decided parameters, with a width bound that the kernel can read (log 7). -/
def par : Params := { Config.params with wMax := 4864 }

/-- Power-on with those parameters. -/
def base : State := { State.reset with par := par }

/-- A decoder in a page of a mode and a width, past its first EOL, at the start of a row. -/
def rx (m : Mode) (w : Word) : State :=
  base.withDec { Dec.reset with
    life := .inPage
    cfg := ⟨some m, some w, none, none⟩
    pcfg := ⟨some m, some w, none, none⟩
    refRuns := [w.toNat]
    a0 := -1
    rowIs2d := m == .t6
    alloc := ⟨[true, true], 0⟩ }

/-- An encoder in a page of a mode and a width, with a row source of one row `3C`, the end, and no more. -/
def tx (m : Mode) (w : Word) : State :=
  base.withEnc { Enc.reset with
    life := .inPage
    cfg := ⟨some m, some w, none, some 100, some 0⟩
    pcfg := ⟨some m, some w, none, some 100, some 0⟩
    k := some 2
    refRuns := [w.toNat]
    alloc := ⟨[true, true, true], 0⟩
    source := ⟨[⟨1, [0x3C]⟩, ⟨0, []⟩], 0, [], 1⟩ }

/-- A state with another decoder or encoder. -/
def onDec (s : State) (f : Dec → Dec) : State := s.withDec (f s.dec)
def onEnc (s : State) (f : Enc → Enc) : State := s.withEnc (f s.enc)

/-- Does an answer hold a state with a property? -/
def answers {α : Type} (r : Res α) (p : α → Bool) : Bool :=
  match r with
  | .next t => p t
  | _ => false

/-- Is an answer a fault for a reason? -/
def faults {α : Type} (r : Res α) (x : Fault) : Bool :=
  match r with
  | .fault y => y == x
  | _ => false

/-! ## Worked examples of the spec -/

/-- R120, V2, V5. -/
theorem test_scan : runLengthsOfRow [0x3C] 8 = [2, 4, 2] ∧ runLengthsOfRow [0xF0] 8 = [0, 4, 4] ∧
    runLengthsOfRow [0x81] 8 = [0, 1, 6, 1] := by decide

/-- R123. -/
theorem test_pack : pack [.black, .white, .white, .white, .white, .white, .white, .white, .black] = [0x80, 0x80] := by
  decide

/-- R126. -/
theorem test_nextChange : nextChange (unpack [0x3C] 8) (-1) = 2 ∧ nextChange (unpack [0x3C] 8) 2 = 6 ∧
    nextChange (unpack [0x3C] 8) 6 = 8 := by decide

/-- R128. -/
theorem test_reference_elements :
    (b1Of (unpack [0x3C] 8) (-1) .white, b2Of (unpack [0x3C] 8) (-1) .white) = (2, 6) ∧
    (b1Of (unpack [0x3C] 8) 2 .black, b2Of (unpack [0x3C] 8) 2 .black) = (6, 8) ∧
    (b1Of (unpack [0x3C] 8) 6 .white, b2Of (unpack [0x3C] 8) 6 .white) = (8, 8) := by decide

/-- R141, R142. -/
theorem test_emit :
    let e := (tx .t41d 8).enc.emit 1 (codeBits .eol)
    (readByte e.out 0, e.acc, e.accBits, readByte (e.pad 1).out 1) = (some 0x00, 0b1000, 4, some 0x08) := by decide

/-- R141, R173: the fill of the example, 17 zeros, whose last bit completes a byte that has no memory; the 23 bits of EOL
and row and the first piece of 13 zeros are counted. -/
theorem test_fill_nomem :
    answers ({ (tx .t41d 8).enc with alloc := ⟨[true, true, true, true, false], 0⟩ }.encodeNextRow ⟨.t41d, 8, 0, 40, 1⟩)
      (fun t => t.rowBits == 36 && t.outBytes == 4 && t.nomem && t.termDone) = true := by decide

/-- R145, R147. -/
theorem test_window :
    let d := Dec.append { Dec.reset with win := 0b101, winCount := 3 } true
    (d.win, d.winCount, (d.drop 1).win, (d.drop 1).winCount) = (0b1101, 4, 0b110, 3) := by decide

/-- R160, V14. -/
theorem test_runCodes : runCodes .white 2624 = [.xm2560, .wm64, .wt0] ∧ runCodes .white 65 = [.wm64, .wt1] ∧
    runCodes .black 63 = [.bt63] := by decide

/-- R162. -/
theorem test_codes1d : codes1d [2, 4, 2] = [.wt2, .bt4, .wt2] := by decide

/-- R164, R165, R166. -/
theorem test_codes2d : codes2d (unpack [0x00] 8) (unpack [0x60] 8) = [.pass, .v0] ∧
    codes2d (unpack [0x06] 8) (unpack [0x0C] 8) = [.vr1, .vr1, .v0] ∧
    codes2d (unpack [0xF0] 8) (unpack [0x00] 8) = [.horiz, .wt0, .bt4, .v0] := by decide

/-- W3: with `b2 = a1` the code is no Pass. -/
theorem test_codes2d_tie :
    codes2d (unpack [0x03, 0xC0] 10) (unpack [0x7C, 0x00] 10) = [.horiz, .wt6, .bt4] ∧
    codes2d (unpack [0x10] 8) (unpack [0x60] 8) = [.vr2, .horiz, .bt1, .wt4] := by decide

/-- A 2D row of width 8 with a reference. -/
def row2d (ref : List Nat) : State := onDec (rx .t42d 8) fun d => { d with rowIs2d := true, refRuns := ref }

/-- The runs, `a0` and the colour after an instruction. -/
def rowAfter (i : Instr) (s : State) : Option (List Nat × Nat × Int × Color) :=
  match exec i s with
  | .next t => some (t.dec.curRuns, t.dec.runAcc, t.dec.a0, t.dec.color)
  | _ => none

/-- R217. -/
theorem test_pass : rowAfter .pass (row2d [1, 2, 5]) = some ([], 3, 3, .white) := by decide
/-- R219. -/
theorem test_v0 : rowAfter .v0 (row2d [2, 4, 2]) = some ([2], 0, 2, .black) := by decide
/-- R220. -/
theorem test_vr1 : rowAfter .vr1 (row2d [4, 2, 2]) = some ([5], 0, 5, .black) := by decide
/-- R221. -/
theorem test_vr2 : rowAfter .vr2 (row2d [4, 2, 2]) = some ([6], 0, 6, .black) := by decide
/-- R222. -/
theorem test_vr3 : rowAfter .vr3 (row2d [4, 2, 2]) = some ([7], 0, 7, .black) := by decide
/-- R223. -/
theorem test_vl1 : rowAfter .vl1 (row2d [4, 2, 2]) = some ([3], 0, 3, .black) := by decide
/-- R224. -/
theorem test_vl2 : rowAfter .vl2 (row2d [4, 2, 2]) = some ([2], 0, 2, .black) := by decide
/-- R225. -/
theorem test_vl3 : rowAfter .vl3 (row2d [4, 2, 2]) = some ([1], 0, 1, .black) := by decide

/-- R218. -/
theorem test_pair : answers (readAll [.horiz, .wt0, .bt4] (row2d [8])) (fun t =>
    t.dec.curRuns == [0, 4] && t.dec.a0 == 4 && t.dec.hpair == .none) = true := by decide

/-- R225, second example: invalid, and the row stays. -/
theorem test_vl3_invalid :
    rowAfter .vl3 (onDec (row2d [2, 2, 4]) fun d => { d with curRuns := [2], a0 := 2, color := .black }) =
      some ([2], 0, 2, .black) := by decide

/-- R260: the stored byte, the row count. -/
theorem test_commit : answers (Dec.commitRow (rxPageOf (rx .t41d 8) .t41d 8)
    { (rx .t41d 8).dec with curRuns := [2, 4], runAcc := 2 })
    (fun d => readByte d.img 0 == some 0x3C && d.rows == 1 && d.refRuns == [2, 4, 2] && d.imgCapRows == 100) = true := by
  decide

/-- R262. -/
theorem test_store : pack (expand [1, 7, 1] 9) = [0x7F, 0x00] := by decide

/-- R264 to R267, V55. -/
theorem test_patch : patchRuns 8 [2, 1] = [2, 6] ∧ patchRuns 8 [2, 1, 2] = [2, 1, 2, 1, 2] ∧ patchRuns 8 [7] = [7, 1] ∧
    patchRuns 8 [] = [8] ∧ patchRuns 8 [2, 4, 5] = [2, 4, 2] ∧ patchRuns 8 [9, 3] = [8] := by decide

/-- V71: a `T6` row that ends past its width is bad, and truncated. -/
theorem test_vr1_t6 : answers (exec .vr1 (rx .t6 8)) (fun t =>
    t.dec.refRuns == [8] && t.dec.page.badRows == 1 && readByte t.dec.img 0 == some 0x00) = true := by decide

/-- R84: after a row, its runs are the reference and `cur_runs` is empty. -/
theorem test_row_exchange : answers (exec .txGetBit (tx .t6 8)) (fun t =>
    t.enc.refRuns == [2, 4, 2] && t.enc.curRuns == []) = true := by decide

/-- V46, first code: a row pulled by GET_BIT, in `T6`. -/
theorem test_getBit : answers (exec .txGetBit (tx .t6 8)) (fun t =>
    t.enc.rowBits == 11 && readByte t.enc.out 0 == some 0x74 && t.host.result == some (.bit 0)) = true := by decide

/-- V81: a read error on the first pull. -/
theorem test_getChunk : answers (exec (.txGetChunk 16 (List.replicate 16 0xFF))
    (onEnc (tx .t41d 8) fun e => { e with source := ⟨[⟨-1, []⟩], 0, [], 1⟩ })) (fun t =>
    t.host.result == some (.chunk 0x80000009 ([0x00, 0x08, 0x80, 0x00, 0x08, 0x80, 0x00, 0x08, 0x80] ++
      List.replicate 7 0xFF))) = true := by decide

/-- V82: the first growth of `OUT` fails. -/
theorem test_getBit_nomem : answers (exec .txGetBit
    (onEnc (tx .t41d 8) fun e => { e with alloc := ⟨[false], 0⟩ })) (fun t =>
    t.host.result == some (.bit 0b1100) && t.enc.outBytes == 0 && t.enc.termDone) = true := by decide

/-- V54, first row, in one step: the PUT that brings the 13th bit of the EOL's window commits the row. -/
theorem test_put_commits : answers (step ((onDec (rx .t41d 8) fun d =>
    { d with curRuns := [2, 1, 2], win := 0x800, winCount := 12 }).withQueue [⟨0x1C, 0, []⟩])) (fun t =>
    t.dec.refRuns == [2, 1, 2, 1, 2] && t.dec.rows == 1 && t.dec.eolCount == 1 && t.host.result == some (.status 0) &&
      t.host.queue == []) = true := by decide

/-! ## Witnesses: encoding and the step -/

theorem witness_codeWordsDecodeFromTheirBits : isCodeWord .xm2560 = true ∧ Instr.xm2560 ∈ wordsOf (.run .black) := by decide

theorem witness_commandsDecodeFromTheirEncoding : isCodeWord (.rxPutByte 0xFF) = false := by decide

theorem witness_reservedOpcodesAreRefused :
    ∀ op ∈ [(0x00 : Byte), 0x10, 0x17, 0x1A, 0x1B, 0x20, 0xFF],
      (op ∈ [(0x00 : Byte), 0x10, 0x17, 0x1A, 0x1B] ∨ 0x20 ≤ op.toNat) ∧
      decisionDue (base.withQueue [⟨op, 7, []⟩]) = false ∧
      (base.withQueue [⟨op, 7, []⟩]).host.queue = ⟨op, 7, []⟩ :: [] := by decide

theorem witness_modeFieldNamesTheMode :
    (tx .t6 8).enc.life ≠ .uninit ∧ (rx .t6 8).dec.life ≠ .uninit := by decide

/-- The first clause: a command at the head of the queue. -/
theorem witness_stepRunsTheDecodedInstruction :
    decisionDue (base.withQueue [⟨0x04, 8, []⟩, ⟨0x08, 0, []⟩]) = false ∧
    (base.withQueue [⟨0x04, 8, []⟩, ⟨0x08, 0, []⟩]).host.queue = ⟨0x04, 8, []⟩ :: [⟨0x08, 0, []⟩] ∧
    decodeCommand ⟨0x04, 8, []⟩ = .ok (.txSetWidth 8) := by decide

/-- The second clause: an EOL in the window, without and with a tag. -/
theorem witness_stepRunsAnEol :
    (let s := onDec (rx .t41d 8) fun d => { d with win := 0x1800, winCount := 13 };
      decisionDue s = true ∧ isEol s.dec.win = true ∧
      decodeCode (.eol (s.dec.pcfg.mode == some .t42d)) s.dec.win = .ok .eol) ∧
    (let s := onDec (rx .t42d 8) fun d => { d with win := 0x1800, winCount := 13 };
      decisionDue s = true ∧ isEol s.dec.win = true ∧
      decodeCode (.eol (s.dec.pcfg.mode == some .t42d)) s.dec.win = .ok .eol1) := by decide

/-- The third clause: a run code, a mode code, the second run code of a pair. -/
theorem witness_stepRunsACodeWord :
    (let s := onDec (rx .t41d 8) fun d => { d with win := 0x0E, winCount := 13 };
      decisionDue s = true ∧ isEol s.dec.win = false ∧ s.dec.skip = 0 ∧ s.dec.eolCount ≠ -1 ∧
      decodeCode (if s.dec.rowIs2d ∧ s.dec.hpair = .none then .mode2d else .run s.dec.color) s.dec.win = .ok .wt2) ∧
    (let s := onDec (rx .t6 8) fun d => { d with win := 0x0E, winCount := 13 };
      decisionDue s = true ∧ isEol s.dec.win = false ∧ s.dec.skip = 0 ∧ s.dec.eolCount ≠ -1 ∧
      decodeCode (if s.dec.rowIs2d ∧ s.dec.hpair = .none then .mode2d else .run s.dec.color) s.dec.win = .ok .vr1) ∧
    (let s := onDec (rx .t6 8) fun d => { d with win := 0x06, winCount := 13, hpair := .second, color := .black };
      decisionDue s = true ∧ isEol s.dec.win = false ∧ s.dec.skip = 0 ∧ s.dec.eolCount ≠ -1 ∧
      decodeCode (if s.dec.rowIs2d ∧ s.dec.hpair = .none then .mode2d else .run s.dec.color) s.dec.win = .ok .bt4) := by
  decide

theorem witness_stepsThatReadNoCodeWord :
    (let s := onDec (rx .t41d 8) fun d => { d with win := 0x0E, winCount := 13, skip := 12 };
      InRxPage s .t41d 8 ∧ decisionDue s = true ∧ isEol s.dec.win = false ∧ 0 < s.dec.skip) ∧
    (let s := onDec (rx .t41d 8) fun d => { d with win := 0x0E, winCount := 13, eolCount := -1 };
      InRxPage s .t41d 8 ∧ decisionDue s = true ∧ isEol s.dec.win = false ∧ s.dec.skip = 0 ∧ s.dec.eolCount = -1) ∧
    (let s := onDec (rx .t41d 8) fun d => { d with win := 0x1000, winCount := 13 };
      InRxPage s .t41d 8 ∧ decisionDue s = true ∧ isEol s.dec.win = false ∧ s.dec.skip = 0 ∧ s.dec.eolCount ≠ -1 ∧
      s.dec.rowIs2d = false ∧ s.dec.win.toNat % 2 ^ 8 = 0) ∧
    (let s := onDec (rx .t6 8) fun d => { d with win := 0x1000, winCount := 13, hpair := .first };
      InRxPage s .t6 8 ∧ decisionDue s = true ∧ isEol s.dec.win = false ∧ s.dec.skip = 0 ∧ s.dec.eolCount ≠ -1 ∧
      s.dec.hpair ≠ .none ∧ s.dec.win.toNat % 2 ^ 8 = 0) ∧
    (decisionDue base = false ∧ base.host.queue = []) := by decide

/-- The 13th bit completes the peek of `WT2`. -/
def waiting : State := onDec (rx .t41d 8) fun d => { d with win := 0x0E, winCount := 12 }

theorem witness_putBitRunsOneDecision :
    let d := { waiting.dec with invalid := false, win := putBit waiting.dec.win 12 true, winCount := 13, pageBits := 1 }
    InRxPage waiting .t41d 8 ∧ waiting.dec.winCount = 12 ∧ waiting.dec.complete = false ∧ waiting.dec.nomem = false ∧
    waiting.dec.pageBits + 1 < 2 ^ 32 ∧ d.decision = .code .wt2 ∧
    answers (exec .wt2 (waiting.withDec d)) (fun t => t.dec.curRuns == [2]) = true := by decide

/-- The decoder with a 1 as its 13th window bit. -/
def after (s : State) : Dec :=
  { s.dec with invalid := false, win := putBit s.dec.win 12 true, winCount := 13, pageBits := 1 }

/-- The other decisions: a code word that faults, a skipped, a hunted and an unmatched bit. -/
theorem witness_putBitRunsOtherDecisions :
    (let s := onDec waiting fun d => { d with runAcc := 2 ^ 31 - 2 };
      InRxPage s .t41d 8 ∧ (after s).decision = .code .wt2 ∧ faults (exec .wt2 (s.withDec (after s))) .runLimit = true) ∧
    (let s := onDec waiting fun d => { d with skip := 12 };
      InRxPage s .t41d 8 ∧ isEol (after s).win = false ∧ 0 < s.dec.skip) ∧
    (let s := onDec waiting fun d => { d with eolCount := -1 };
      InRxPage s .t41d 8 ∧ isEol (after s).win = false ∧ s.dec.skip = 0 ∧ s.dec.eolCount = -1) ∧
    (let s := onDec waiting fun d => { d with win := 0 };
      InRxPage s .t41d 8 ∧ isEol (after s).win = false ∧ s.dec.skip = 0 ∧ s.dec.eolCount ≠ -1 ∧
      s.dec.rowIs2d = false ∧ (after s).win.toNat % 2 ^ 8 = 0) ∧
    (isPut (.rxPutChunk 1 [0xA5]) = true ∧
      answers (exec (.rxPutChunk 1 [0xA5]) waiting) (fun t => t.dec.winCount == 12) = true) := by decide

/-! ## Witnesses: the invariants -/

/-- An encoder in a page, a byte stored and 7 bits waiting. -/
def encMid : State := onEnc (tx .t42d 8) fun e =>
  { e with out := [(0, 0x80)], outBytes := 1, outCap := 1, acc := 0x40, accBits := 7, rowsTo1d := 1 }

theorem witness_paramsOk : ParamsOk par :=
  ⟨by decide, by decide, by decide, by decide, by decide, by decide⟩

theorem witness_encInv : EncInv encMid.par encMid.enc where
  outWf := by decide
  outListed := by decide
  outCap := by decide
  accBits := by decide
  accClean := by decide
  cfgWidth := by intro x h; cases h; decide
  pageWidth := by intro x h; cases h; decide
  cfgMinRowBits := by decide
  pageCfg := by decide
  pageK := fun _ _ => ⟨2, by decide, by decide⟩
  pageRef := by intro _ w h; cases h; decide
  doneWhole := by decide
  nomemDone := by decide
  sourceDone := by decide
  errorDone := by decide
  rowsFit := by decide

theorem witness_stepKeepsTheEncoderInvariant :
    answers (step (encMid.withQueue [⟨0x0C, 0, []⟩])) (fun t => t.enc.outPos == 1) = true := by decide

/-- A decoder in a page of mode `T4_1D` with one row stored and 12 window bits. -/
def decMid : State := onDec (rx .t41d 8) fun d =>
  { d with win := 0x00E, winCount := 12, img := [(0, 0x3C)], rows := 1, imgCapRows := 1, refRuns := [2, 4, 2] }

theorem witness_decInv : DecInv decMid.par decMid.dec where
  imgWf := by decide
  cfgWidth := by intro x h; cases h; decide
  pageWidth := by intro x h; cases h; decide
  pageCfg := by decide
  rowsCap := by decide
  imgListed := by intro w h; cases h; decide
  pageRef := by intro _ w h; cases h; decide
  winCount := by decide
  winClean := by decide
  skip := by decide
  eolCount := by decide
  a0 := by decide
  rowTotal := by decide
  runsLen := by intro _ w h; cases h; decide
  t41dRow := by decide
  t6Row := by decide
  pair := by decide
  completeEnd := by decide
  badRows := by decide
  rowsFit := by decide
  pageBitsFit := by decide

theorem witness_stepKeepsTheDecoderInvariant :
    answers (step (decMid.withQueue [⟨0x1C, 1, []⟩])) (fun t => t.dec.curRuns == [2]) = true := by decide

theorem witness_channelsShareNoState :
    answers (exec .txGetBit encMid) (fun t => t.enc.outPos == 1) = true ∧ isTx .txGetBit = true ∧
    answers (exec (.rxPutBit true) decMid) (fun t => t.dec.curRuns == [2]) = true ∧ isTx (.rxPutBit true) = false := by
  decide

/-- An idle encoder and decoder, configured for a mode, with an answer of the allocator. -/
def idle (m : Mode) (ok : Bool) : State :=
  onDec (onEnc (tx m 8) fun e => { e with life := .idle, alloc := ⟨[ok], 3⟩ })
    fun d => { d with life := .idle, cfg := ⟨some m, some 8, none, none⟩, alloc := ⟨[ok], 3⟩ }

/-- R313: a page ended early leaves its answers unread, and the next page reads its own. -/
theorem test_rows_per_page :
    answers (exec .txStartPage (onEnc (idle .t6 true) fun e =>
      { e with source := ⟨[⟨1, [0x3C]⟩], 1, [[⟨0, []⟩], [⟨-1, []⟩]], 1⟩ }))
      (fun t => t.enc.source == ⟨[⟨0, []⟩], 0, [[⟨-1, []⟩]], 2⟩) = true := by decide

theorem witness_onlyStartPageConfiguresThePage :
    answers (exec .txStartPage (idle .t42d true)) (fun t => t.enc.life == .inPage) = true ∧
    answers (exec .rxStartPage (idle .t6 true)) (fun t => t.dec.life == .inPage) = true ∧
    answers (exec .txGetBit encMid) (fun t => t.enc.pcfg == encMid.enc.pcfg) = true ∧
    answers (exec .txEndPage encMid) (fun t => t.enc.stats.pages == 1) = true := by decide

/-! ## Witnesses: commands -/

theorem witness_initOpensAndReleaseCloses :
    (base.enc.life = .uninit ∧ base.dec.life = .uninit) ∧
    ((idle .t6 true).enc.life ≠ .uninit ∧ (idle .t6 true).dec.life ≠ .uninit) ∧
    (encMid.enc.life ≠ .uninit ∧ decMid.dec.life ≠ .uninit) := by decide

theorem witness_settersStageOneField :
    (encMid.enc.life ≠ .uninit ∧ decMid.dec.life ≠ .uninit) ∧
    (1 ≤ (1 : Word).toNat ∧ (1 : Word).toNat ≤ encMid.par.wMax) ∧
    (1 ≤ (4864 : Word).toNat ∧ (4864 : Word).toNat ≤ encMid.par.wMax) := by decide

theorem witness_startPageOpensThePage :
    ∀ m ∈ [Mode.t41d, .t42d, .t6], ∀ ok : Bool,
      ((idle m ok).enc.life = .idle ∧ (idle m ok).enc.cfg.mode = some m ∧ (idle m ok).enc.cfg.width = some 8 ∧
        (m = .t42d → (idle m ok).enc.cfg.yres.isSome) ∧ (idle m ok).enc.alloc.script = ok :: []) ∧
      ((idle m ok).dec.life = .idle ∧ (idle m ok).dec.cfg.mode = some m ∧ (idle m ok).dec.cfg.width = some 8 ∧
        (idle m ok).dec.alloc.script = ok :: []) := by decide

theorem witness_kFollowsTheResolution :
    (idle .t42d true).enc.cfg.mode = some .t42d ∧ (idle .t42d true).enc.cfg.yres = some 100 ∧
    answers (exec .txStartPage (idle .t42d true)) (fun t => t.enc.life == .inPage && t.enc.k == some 2) = true := by decide

/-- An encoder whose counters stand at their largest values. -/
def encEnd : State := onEnc encMid fun e =>
  { e with rows := 2 ^ 32 - 1, stats := { e.stats with pages := BitVec.ofNat 32 (2 ^ 32 - 2) } }

theorem witness_txEndPageSnapshots :
    InTxPage encEnd .t42d 8 0 ∧ encEnd.enc.stats.pages.toNat + 1 < 2 ^ 32 ∧ encEnd.enc.rows < 2 ^ 32 ∧
    (8 * encEnd.enc.outBytes + encEnd.enc.accBits + 7) / 8 < 2 ^ 32 := by decide

/-- The decoder's counterpart, with the page complete, out of memory, or neither. -/
def decEnd (complete nomem : Bool) : State := onDec (rx .t6 8) fun d =>
  { d with
    complete := complete, nomem := nomem, eolCount := 2, rows := 2 ^ 32 - 1, pageBits := 2 ^ 32 - 1
    stats := { d.stats with pages := BitVec.ofNat 32 (2 ^ 32 - 2) } }

theorem witness_rxEndPageSnapshots :
    ∀ x ∈ [(true, false), (false, true), (false, false)],
      let s := decEnd x.1 x.2
      InRxPage s .t6 8 ∧ s.dec.drains = false ∧
      (s.dec.complete = true ∨ s.dec.nomem = true ∨ s.dec.rowLen = 0) ∧
      s.dec.stats.pages.toNat + 1 < 2 ^ 32 ∧ s.dec.rows < 2 ^ 32 ∧ s.dec.page.badRows < 2 ^ 32 ∧
      max s.dec.page.longestBadRun s.dec.page.curBadRun < 2 ^ 32 ∧ (s.dec.pageBits + 7) / 8 < 2 ^ 32 := by decide

/-- Bits that cannot be decoded: a `T4_2D` EOL without its tag. -/
theorem witness_rxEndPageLeavesBits :
    let s := onDec (rx .t42d 8) fun d => { d with win := 0x800, winCount := 12 }
    InRxPage s .t42d 8 ∧ s.dec.drains = false ∧ s.dec.rowLen = 0 := by decide

theorem witness_rxEndPageDrains :
    decMid.dec.life = .inPage ∧ decMid.dec.drains = true ∧ decMid.dec.decision = .code .wt2 ∧ Instr.wt2 ≠ .null2d ∧
    answers (exec .wt2 decMid) (fun t => t.dec.winCount == 11) = true ∧
    answers (exec .rxEndPage decMid) (fun t => t.dec.life == .idle) = true := by decide

/-- The other decisions: a code word that faults, a skipped, a hunted and an unmatched bit. -/
theorem witness_rxEndPageDrainsOtherDecisions :
    (let s := onDec decMid fun d => { d with runAcc := 2 ^ 31 - 2 };
      s.dec.drains = true ∧ s.dec.decision = .code .wt2 ∧ faults (exec .wt2 s) .runLimit = true) ∧
    (let s := onDec decMid fun d => { d with skip := 3 };
      InRxPage s .t41d 8 ∧ s.dec.drains = true ∧ isEol s.dec.view = false ∧ 0 < s.dec.skip) ∧
    (let s := onDec decMid fun d => { d with eolCount := -1 };
      InRxPage s .t41d 8 ∧ s.dec.drains = true ∧ isEol s.dec.view = false ∧ s.dec.skip = 0 ∧ s.dec.eolCount = -1) ∧
    (let s := onDec decMid fun d => { d with win := 0, winCount := 3 };
      InRxPage s .t41d 8 ∧ s.dec.drains = true ∧ isEol s.dec.view = false ∧ s.dec.skip = 0 ∧ s.dec.eolCount ≠ -1 ∧
      s.dec.rowIs2d = false ∧ s.dec.view.toNat % 2 ^ 8 = 0) := by decide

/-- A row in progress and an empty window. -/
def partialRow : State := onDec decMid fun d => { d with winCount := 0, win := 0, curRuns := [2, 4], runAcc := 2 }

theorem witness_rxEndPageCommits :
    InRxPage partialRow .t41d 8 ∧ partialRow.dec.drains = false ∧ partialRow.dec.complete = false ∧
    partialRow.dec.nomem = false ∧ 0 < partialRow.dec.rowLen ∧
    answers (partialRow.dec.commitRow (rxPageOf partialRow .t41d 8)) (fun d => d.rows == 2) = true := by decide

theorem witness_queriesAndRestart :
    encMid.enc.life ≠ .uninit ∧ decMid.dec.life ≠ .uninit ∧ encMid.enc.life = .inPage := by decide

theorem witness_unadmittedInstructionsAreRefused :
    (∀ i ∈ [Instr.txSetMode 0, .txStartPage, .txGetBit, .rxPutBit true, .wt0, .eol, .rxEndPage, .rxGetStats],
      admits i (lifeFor i base) = false) ∧
    (∀ i ∈ [Instr.txInit, .txStartPage, .rxInit, .rxStartPage], admits i (lifeFor i (decMid.withEnc encMid.enc)) = false) ∧
    (∀ i ∈ [Instr.txGetByte, .txRestartPage, .rxPutByte 0, .null2d], admits i (lifeFor i (idle .t6 true)) = false) := by
  decide

theorem witness_badOperandsAreRefused :
    (((0 : Word).toNat = 0 ∨ par.wMax < (0 : Word).toNat) ∧ ((4865 : Word).toNat = 0 ∨ par.wMax < (4865 : Word).toNat) ∧
      encMid.enc.life ≠ .uninit ∧ decMid.dec.life ≠ .uninit) ∧
    (∀ p ∈ [1, 7], InTxPage (onEnc encMid fun e => { e with outPos := p }) .t42d 8 0 ∧
      (onEnc encMid fun e => { e with outPos := p }).enc.outPos % 8 ≠ 0) ∧
    (InTxPage encMid .t42d 8 0 ∧ encMid.enc.outPos % 8 = 0 ∧ 2 ^ 31 ≤ (0x80000000 : Word).toNat) ∧
    (∀ c ∈ [TxCfg.mk none (some 8) none none (some 0), ⟨some .t6, none, none, none, some 0⟩,
        ⟨some .t42d, some 8, none, none, some 0⟩],
      let s := onEnc (idle .t6 true) fun e => { e with cfg := c }
      s.enc.life = .idle ∧
        (s.enc.cfg.mode = none ∨ s.enc.cfg.width = none ∨ (s.enc.cfg.mode = some .t42d ∧ s.enc.cfg.yres = none))) ∧
    (∀ c ∈ [RxCfg.mk none (some 8) none none, ⟨some .t6, none, none, none⟩],
      let s := onDec (idle .t6 true) fun d => { d with cfg := c }
      s.dec.life = .idle ∧ (s.dec.cfg.mode = none ∨ s.dec.cfg.width = none)) := by decide

/-! ## Witnesses: PUT commands -/

theorem witness_putAfterThePageEndDiscards :
    ∀ x ∈ [(true, false), (false, true)],
      isPut (.rxPutChunk 1 [0xFF]) = true ∧ InRxPage (decEnd x.1 x.2) .t6 8 ∧
      ((decEnd x.1 x.2).dec.complete = true ∨ (decEnd x.1 x.2).dec.nomem = true) := by decide

/-- Eleven bits wait. -/
def eleven : State := onDec (rx .t41d 8) fun d => { d with win := 0x7FF, winCount := 11 }

theorem witness_putBelowThirteenBitsWaits :
    (isPut (.rxPutBit true) = true ∧ InRxPage eleven .t41d 8 ∧ eleven.dec.complete = false ∧ eleven.dec.nomem = false ∧
      eleven.dec.win.toNat < 2 ^ eleven.dec.winCount ∧
      eleven.dec.winCount + (putBitsOf (.rxPutBit true)).length < 13 ∧
      eleven.dec.pageBits + (putBitsOf (.rxPutBit true)).length < 2 ^ 32) ∧
    (isPut (.rxPutByte 0xA5) = true ∧ (rx .t41d 8).dec.winCount + (putBitsOf (.rxPutByte 0xA5)).length < 13) ∧
    (isPut (.rxPutChunk 0 []) = true ∧ (putBitsOf (.rxPutChunk 0 [])).length = 0) ∧
    (isPut (.rxPutChunk 1 [0xA5]) = true ∧
      (rx .t41d 8).dec.winCount + (putBitsOf (.rxPutChunk 1 [0xA5])).length < 13) := by decide

/-- `witness_paramsOk` and `witness_decInv` hold of the same state. -/
theorem witness_putCommandsComplete :
    isPut (.rxPutBit true) = true ∧ InRxPage decMid .t41d 8 ∧ decMid.par = par ∧ decMid.dec.winCount ≤ 12 ∧
    decMid.dec.pageBits + (putBitsOf (.rxPutBit true)).length < 2 ^ 32 ∧
    decMid.dec.rows + (putBitsOf (.rxPutBit true)).length + 13 < 2 ^ 32 ∧
    decMid.dec.rowLen + ((putBitsOf (.rxPutBit true)).length + 13) * ((8 : Word).toNat + 2563) < 2 ^ 31 := by decide

/-! ## Witnesses: code words -/

/-- A row whose total is one short of a bound, and one with a full RunArray. -/
def longRow (total : Nat) : State := onDec (rx .t41d 8) fun d => { d with runAcc := total }
def fullRow : State := onDec (rx .t41d 8) fun d => { d with curRuns := List.replicate 14 0 }

theorem witness_terminatingCodesCloseTheRun :
    (whiteTermRows[0]? = some ⟨.wt0, 8, 0xAC, 0⟩ ∧ InRxPage (rx .t41d 8) .t41d 8) ∧
    blackTermRows[63]? = some ⟨.bt63, 12, 0xE60, 63⟩ ∧
    ((longRow (2 ^ 31 - 64)).dec.runAcc + 63 < 2 ^ 31 ∧ (longRow (2 ^ 31 - 64)).dec.rowLen + 63 < 2 ^ 31) ∧
    (InRxPage fullRow .t41d 8 ∧ (8 : Word).toNat + fullRow.par.runMargin - 2 ≤ fullRow.dec.curRuns.length) ∧
    (let s := onDec (rx .t6 8) fun d => { d with hpair := .second, curRuns := [2] };
      InRxPage s .t6 8 ∧ s.dec.hpair = .second ∧ (s.dec.curRuns ++ [s.dec.runAcc + 5]).sum < (8 : Word).toNat ∧
        s.dec.codes + 1 < 2 * (8 : Word).toNat + 2) ∧
    (let s := onDec (rx .t6 8) fun d => { d with hpair := .first };
      InRxPage s .t6 8 ∧ s.dec.hpair ≠ .second) := by decide

theorem witness_makeupCodesExtendTheRun :
    whiteMakeupRows[0]? = some ⟨.wm64, 5, 0x1B, 64⟩ ∧ blackMakeupRows[26]? = some ⟨.bm1728, 13, 0x14C0, 64 * (26 + 1)⟩ ∧
    extMakeupRows[0]? = some ⟨.xm1792, 11, 0x80, 1792⟩ ∧ extMakeupRows[12]? = some ⟨.xm2560, 12, 0xF80, 1792 + 64 * 12⟩ ∧
    InRxPage (longRow (2 ^ 31 - 2561)) .t41d 8 ∧ (longRow (2 ^ 31 - 2561)).dec.rowLen + 2560 < 2 ^ 31 := by decide

theorem witness_runLimitFaults :
    (InRxPage (longRow (2 ^ 31 - 2560)) .t41d 8 ∧ 2 ^ 31 ≤ (longRow (2 ^ 31 - 2560)).dec.rowLen + 2560 ∧
      2 ^ 31 ≤ (longRow (2 ^ 31 - 64)).dec.rowLen + 64) ∧
    (2 ^ 31 ≤ (longRow (2 ^ 31 - 63)).dec.runAcc + 63) ∧
    (let s := onDec (row2d [4, 4]) fun d => { d with curRuns := [2 ^ 31 - 4] };
      InRxPage s .t42d 8 ∧ s.dec.curRuns.length < (8 : Word).toNat + s.par.runMargin - 2 ∧
      (2 ^ 31 ≤ s.dec.rowLen + 4) ∧
      (let a1 := (b1Of (expand s.dec.refRuns (8 : Word).toNat) s.dec.a0 s.dec.color : Int) + 0;
        max s.dec.a0 0 ≤ a1 ∧ 2 ^ 31 ≤ s.dec.rowLen + (a1 - max s.dec.a0 0).toNat) ∧
      (let b2 := b2Of (expand s.dec.refRuns (8 : Word).toNat) s.dec.a0 s.dec.color;
        max s.dec.a0 0 ≤ (b2 : Int) ∧ 2 ^ 31 ≤ s.dec.rowLen + ((b2 : Int) - max s.dec.a0 0).toNat)) := by decide

/-- Every V code against the reference `[4, 2, 2]`, at the start of a row: `a1` is 1 to 7, in `T4_2D` and in `T6`. -/
theorem witness_verticalCodesCloseTheRun :
    ∀ x ∈ [(Instr.v0, (0 : Int)), (.vr1, 1), (.vr2, 2), (.vr3, 3), (.vl1, -1), (.vl2, -2), (.vl3, -3)],
      ∀ m ∈ [Mode.t42d, .t6],
      let s := onDec (rx m 8) fun d => { d with rowIs2d := true, refRuns := [4, 2, 2] }
      let a1 := (b1Of (expand s.dec.refRuns (8 : Word).toNat) s.dec.a0 s.dec.color : Int) + x.2
      InRxPage s m 8 ∧ max s.dec.a0 0 ≤ a1 ∧ s.dec.runAcc + (a1 - max s.dec.a0 0).toNat < 2 ^ 31 ∧
      s.dec.rowLen + (a1 - max s.dec.a0 0).toNat < 2 ^ 31 ∧ a1 < (8 : Word).toNat ∧ s.dec.codes + 1 < 2 * (8 : Word).toNat + 2 := by decide

/-- `a1` may lie past the width in `T4_2D`, and no run may be left to append it to. -/
theorem witness_verticalPastTheWidth :
    (let s := row2d [8];
      InRxPage s .t42d 8 ∧ (b1Of (expand s.dec.refRuns 8) s.dec.a0 s.dec.color : Int) + 3 = 11 ∧ Mode.t42d ≠ .t6) ∧
    (8 : Word).toNat + fullRow.par.runMargin - 2 ≤ fullRow.dec.curRuns.length := by decide

theorem witness_passExtendsTheRun :
    (let s := row2d [1, 2, 5];
      InRxPage s .t42d 8 ∧ 3 = b2Of (expand s.dec.refRuns (8 : Word).toNat) s.dec.a0 s.dec.color ∧
      max s.dec.a0 0 ≤ ((3 : Nat) : Int) ∧ s.dec.rowLen + (((3 : Nat) : Int) - max s.dec.a0 0).toNat < 2 ^ 31) ∧
    (let s := onDec (rx .t6 8) fun d => { d with refRuns := [1, 2, 5] };
      InRxPage s .t6 8 ∧ 3 = b2Of (expand s.dec.refRuns (8 : Word).toNat) s.dec.a0 s.dec.color ∧
      max s.dec.a0 0 ≤ ((3 : Nat) : Int) ∧ 3 < (8 : Word).toNat ∧ s.dec.codes + 1 < 2 * (8 : Word).toNat + 2) := by decide

theorem witness_horizontalExtensionAndNull : InRxPage (row2d [8]) .t42d 8 := by decide

/-- `VL1` to `VL3` behind `a0`, `V0` to `VR3` behind an `a0` past the width, a Pass there. -/
theorem witness_invalidModesLeaveTheRow :
    (let s := onDec (row2d [2, 2, 4]) fun d => { d with curRuns := [3], a0 := 3, color := .black };
      InRxPage s .t42d 8 ∧ ∀ off ∈ [(-2 : Int), -3],
        (b1Of (expand s.dec.refRuns (8 : Word).toNat) s.dec.a0 s.dec.color : Int) + off < max s.dec.a0 0) ∧
    (let s := onDec (row2d [8]) fun d => { d with curRuns := [12], a0 := 12, color := .black };
      InRxPage s .t42d 8 ∧
      (∀ off ∈ [(0 : Int), 1, 2, 3, -1, -2, -3],
        (b1Of (expand s.dec.refRuns (8 : Word).toNat) s.dec.a0 s.dec.color : Int) + off < max s.dec.a0 0) ∧
      (b2Of (expand s.dec.refRuns (8 : Word).toNat) s.dec.a0 s.dec.color : Int) < max s.dec.a0 0) := by decide

/-- A `T6` row that the V code of an offset ends: white up to column 8, with room in `IMG`. -/
def lastCode (ref : List Nat) : State := onDec (rx .t6 8) fun d => { d with refRuns := ref, imgCapRows := 1 }

/-- At the width, and at the backstop: a V, a P, a pair. -/
theorem witness_t6RowEndCommitsTheRow :
    answers (exec .v0 (lastCode [8])) (fun t => t.dec.rows == 1) = true ∧
    answers (exec .pass (lastCode [8])) (fun t => t.dec.rows == 1) = true ∧
    answers (exec .bt5 (onDec (lastCode [8]) fun d => { d with hpair := .second, color := .black, curRuns := [3] }))
      (fun t => t.dec.rows == 1) = true ∧
    (let s := onDec (lastCode [4, 4]) fun d => { d with codes := 17 };
      InRxPage s .t6 8 ∧ 2 * (8 : Word).toNat + 2 ≤ s.dec.codes + 1 ∧ s.dec.rowIs2d = true ∧
      (b1Of (expand s.dec.refRuns (8 : Word).toNat) s.dec.a0 s.dec.color : Int) + -3 < 8 ∧
      answers (exec .vl3 s) (fun t => t.dec.rows == 1) = true) := by decide

theorem witness_t6RowEndsAtItsWidth :
    ∀ x ∈ [([8], (0 : Int)), ([7, 1], 1), ([6, 2], 2), ([5, 3], 3)],
      let s := lastCode x.1
      InRxPage s .t6 8 ∧
      (b1Of (expand s.dec.refRuns (8 : Word).toNat) s.dec.a0 s.dec.color : Int) + x.2 = (8 : Word).toNat ∧
      s.dec.a0 ≤ (8 : Word).toNat ∧
      (s.dec.curRuns ++ [s.dec.runAcc + (((8 : Word).toNat : Int) - max s.dec.a0 0).toNat]).sum = (8 : Word).toNat ∧
      s.dec.overflow = false ∧ s.dec.curRuns.length < (8 : Word).toNat + s.par.runMargin - 2 ∧
      s.dec.rows < s.dec.imgCapRows ∧ s.dec.rows + 1 < 2 ^ 32 := by decide

theorem witness_eolWithoutARow :
    ∀ m ∈ [Mode.t41d, .t42d, .t6], ∀ n ∈ [(-1 : Int), 0, 1, 5],
      let s := onDec (rx m 8) fun d => { d with eolCount := n, win := 0x1800, winCount := 13 }
      (∃ x ∈ eolForms s, InRxPage s x.2.1 8) ∧ (s.dec.eolCount = -1 ∨ s.dec.rowLen = 0) := by decide

theorem witness_eolCommitsTheRow :
    ∀ m ∈ [Mode.t41d, .t42d, .t6], ∀ ok : Bool,
      let s := onDec (rx m 8) fun d => { d with runAcc := 5, win := 0x1800, winCount := 13, alloc := ⟨[ok], 0⟩ }
      ∃ x ∈ eolForms s, InRxPage s x.2.1 8 ∧ s.dec.eolCount ≠ -1 ∧ 0 < s.dec.rowLen ∧
        answers (Dec.commitRow (rxPageOf s x.2.1 8) { s.dec with
          win := s.dec.win >>> x.2.2.2, winCount := s.dec.winCount - x.2.2.2, skip := 0 }) (fun _ => true) = true := by
  decide

/-! ## Witnesses: commit -/

/-- A page of width 8 and a decoder with one stored row and room for another. -/
def pg8 : RxPage := ⟨.t41d, 8, 16, 1⟩
def commitOf (runs : List Nat) (acc : Nat) : Dec := { decMid.dec with curRuns := runs, runAcc := acc, imgCapRows := 2 }

theorem witness_commitStoresAGoodRow :
    ∀ x ∈ [([2, 4], 2), ([2, 4, 2], 0), (List.replicate 13 0, 8)],
      let d := commitOf x.1 x.2
      (if 0 < d.runAcc then d.curRuns ++ [d.runAcc] else d.curRuns).sum = pg8.w ∧ d.overflow = false ∧
      (0 < d.runAcc → d.curRuns.length < pg8.runsCap - 2) ∧ d.rows < d.imgCapRows ∧ d.rows + 1 < 2 ^ 32 := by decide

/-- Short, long, right in sum but overflowed before, right in sum with an open run that a full RunArray discards; after a
row, and as the first one. -/
theorem witness_commitSubstitutesABadRow :
    (∀ d ∈ [commitOf [2] 1, commitOf [9, 3] 0, { commitOf [2, 6] 0 with overflow := true },
        commitOf (8 :: List.replicate 13 0) 1],
      let runs := if 0 < d.runAcc ∧ d.curRuns.length < pg8.runsCap - 2 then d.curRuns ++ [d.runAcc] else d.curRuns
      d.runAcc < 2 ^ 31 ∧ runs.sum < 2 ^ 31 ∧
      (runs.sum ≠ pg8.w ∨ d.overflow = true ∨ (0 < d.runAcc ∧ pg8.runsCap - 2 ≤ d.curRuns.length)) ∧
      d.rows < d.imgCapRows ∧ d.rows + 1 < 2 ^ 32 ∧
      [(0x3C : Byte)].length = bytesPerRow pg8.w ∧ 0 < d.rows ∧
      ∀ i < bytesPerRow pg8.w, readByte d.img ((d.rows - 1) * bytesPerRow pg8.w + i) = [(0x3C : Byte)][i]?) ∧
    (let d := { commitOf [2] 1 with rows := 0 };
      d.rows = 0 ∧ d.rows < d.imgCapRows ∧ d.curRuns.sum + d.runAcc ≠ pg8.w ∧
      [(0x00 : Byte)] = List.replicate (bytesPerRow pg8.w) 0) := by decide

theorem witness_commitGrowsOrFails : ∀ ok : Bool,
    let d := { decMid.dec with alloc := ⟨[ok], 0⟩ }
    d.rows = d.imgCapRows ∧ d.alloc.script = ok :: [] ∧ 1 ≤ pg8.imgGrow := by decide

theorem witness_patchMakesTheWidth :
    [2, 1] = [2] ++ [1] ∧ [2, 1].sum < 8 ∧ [2].length % 2 = 1 ∧
    [2, 1, 2] = [2, 1] ++ [2] ∧ [2, 1, 2].sum < 8 ∧ [2, 1].length % 2 = 0 ∧ 8 - [7].sum = 1 ∧
    [2, 4, 5] = [2, 4] ++ 5 :: [] ∧ 8 < [2, 4, 5].sum ∧ [2, 4].sum < 8 ∧ 8 ≤ [2, 4].sum + 5 ∧
    [9, 3] = [] ++ 9 :: [3] ∧ 8 < [9, 3].sum ∧ [4, 4].sum = 8 := by decide

theorem witness_committedRowsAreNeverRewritten :
    answers (exec .rxEndPage partialRow) (fun t => t.dec.rows == 2) = true ∧ partialRow.dec.pcfg.width = some 8 ∧
    0 < partialRow.dec.rows * bytesPerRow (8 : Word).toNat := by decide

theorem witness_codeWordsStoreAtMostOneRow :
    isCodeWord .eol = true ∧ InRxPage partialRow .t41d 8 ∧
    answers (exec .eol partialRow) (fun t => t.dec.rows == 2) = true ∧ isCodeWord .wt0 = true ∧
    answers (exec .wt0 partialRow) (fun t => t.dec.rows == 1) = true := by decide

/-! ## Witnesses: delivery and production -/

/-- An encoder whose page has ended after one byte. -/
def encDone (pos : Nat) : State := onEnc encMid fun e =>
  { e with acc := 0, accBits := 0, srcDone := true, termDone := true, outPos := pos }
def encAt (pos : Nat) : State := onEnc encMid fun e => { e with outPos := pos }

theorem witness_getBitDelivers :
    (InTxPage (encAt 7) .t42d 8 0 ∧ (encAt 7).enc.outPos < 8 * (encAt 7).enc.outBytes ∧
      readByte (encAt 7).enc.out ((encAt 7).enc.outPos / 8) = some 0x80 ∧
      (encAt 7).enc.outPos + 1 < (encAt 7).enc.emitted) ∧
    (8 * (encAt 8).enc.outBytes ≤ (encAt 8).enc.outPos ∧ (encAt 8).enc.outPos + 1 < (encAt 8).enc.emitted) ∧
    (InTxPage (encDone 7) .t42d 8 0 ∧ (encDone 7).enc.outPos + 1 = (encDone 7).enc.emitted ∧
      (encDone 7).enc.outPos < 8 * (encDone 7).enc.outBytes ∧ (encDone 7).enc.termDone = true) ∧
    ((encDone 8).enc.emitted ≤ (encDone 8).enc.outPos ∧ (encDone 8).enc.termDone = true) := by decide

/-- A page that has not ended: no bit is there, and the last bit so far. -/
theorem witness_getBitPulls :
    (InTxPage (tx .t42d 8) .t42d 8 0 ∧ 1 ≤ (8 : Word).toNat ∧ (tx .t42d 8).enc.emitted ≤ (tx .t42d 8).enc.outPos ∧
      (tx .t42d 8).enc.termDone = false ∧
      answers ((tx .t42d 8).enc.encodeNextRow (txPageOf (tx .t42d 8) .t42d 8 0)) (fun e => e.emitted == 24) = true) ∧
    (InTxPage (encAt 14) .t42d 8 0 ∧ (encAt 14).enc.outPos + 1 = (encAt 14).enc.emitted ∧
      (encAt 14).enc.termDone = false ∧ 8 * (encAt 14).enc.outBytes ≤ (encAt 14).enc.outPos ∧
      answers (Enc.encodeNextRow (txPageOf (encAt 14) .t42d 8 0) { (encAt 14).enc with outPos := 15 })
        (fun e => decide (15 < e.emitted)) = true) := by decide

/-- A page that has not ended and holds one whole byte. -/
def encByte : State := onEnc encMid fun e => { e with acc := 0, accBits := 0 }

theorem witness_getByteDelivers :
    (InTxPage (encAt 0) .t42d 8 0 ∧ (encAt 0).enc.outPos % 8 = 0 ∧
      readByte (encAt 0).enc.out ((encAt 0).enc.outPos / 8) = some 0x80 ∧
      (encAt 0).enc.outPos + 8 ≤ 8 * (encAt 0).enc.outBytes ∧ (encAt 0).enc.outPos + 8 < (encAt 0).enc.emitted) ∧
    (InTxPage (encDone 0) .t42d 8 0 ∧ (encDone 0).enc.outPos % 8 = 0 ∧
      readByte (encDone 0).enc.out ((encDone 0).enc.outPos / 8) = some 0x80 ∧
      (encDone 0).enc.outPos + 8 = (encDone 0).enc.emitted ∧ (encDone 0).enc.termDone = true) ∧
    ((encDone 8).enc.outPos % 8 = 0 ∧ (encDone 8).enc.emitted ≤ (encDone 8).enc.outPos) := by decide

theorem witness_getByteAndGetChunkPull :
    (InTxPage encByte .t42d 8 0 ∧ readByte encByte.enc.out (encByte.enc.outPos / 8) = some 0x80 ∧
      encByte.enc.outPos + 8 ≤ 8 * encByte.enc.outBytes ∧ encByte.enc.outPos + 8 = encByte.enc.emitted ∧
      encByte.enc.termDone = false ∧
      answers (Enc.encodeNextRow (txPageOf encByte .t42d 8 0) { encByte.enc with outPos := 8 })
        (fun e => decide (8 < e.emitted)) = true) ∧
    (InTxPage (encAt 8) .t42d 8 0 ∧ (encAt 8).enc.outPos % 8 = 0 ∧ (encAt 8).enc.emitted ≤ (encAt 8).enc.outPos + 7 ∧
      (encAt 8).enc.termDone = false ∧
      answers ((encAt 8).enc.encodeNextRow (txPageOf (encAt 8) .t42d 8 0)) (fun e => decide (15 < e.emitted)) = true) := by
  decide

/-- A chunk that the page's end cuts short after one byte, and a chunk that goes on behind a stored byte. -/
theorem witness_getChunkStopsShort :
    (InTxPage (encDone 0) .t42d 8 0 ∧ (2 : Word).toNat ≤ [(0xFF : Byte), 0xFF].length ∧
      [(0x80 : Byte)].length < (2 : Word).toNat ∧
      (encDone 0).enc.emitted = (encDone 0).enc.outPos + 8 * [(0x80 : Byte)].length ∧
      (encDone 0).enc.emitted = 8 * (encDone 0).enc.outBytes ∧ (encDone 0).enc.termDone = true ∧
      readByte (encDone 0).enc.out ((encDone 0).enc.outPos / 8) = some 0x80 ∧
      (encDone 0).enc.outPos + 8 ≤ 8 * (encDone 0).enc.outBytes ∧
      answers (exec (.txGetChunk (2 - 1) [0xFF]) ((encDone 0).withEnc { (encDone 0).enc with outPos := 8 }))
        (fun t => t.host.result == some (.chunk 0 [0xFF])) = true) := by decide

theorem witness_getChunkDelivers :
    (InTxPage (encAt 0) .t42d 8 0 ∧ (1 : Word).toNat < 2 ^ 31 ∧ (1 : Word).toNat ≤ [(0xFF : Byte)].length ∧
      [(0x80 : Byte)].length = (1 : Word).toNat ∧ (encAt 0).enc.outPos + 8 * (1 : Word).toNat ≤ 8 * (encAt 0).enc.outBytes ∧
      ∀ i < (1 : Word).toNat, readByte (encAt 0).enc.out ((encAt 0).enc.outPos / 8 + i) = [(0x80 : Byte)][i]?) ∧
    ((0 : Word).toNat ≤ ([] : List Byte).length ∧ ([] : List Byte).length = (0 : Word).toNat) ∧
    (InTxPage (encDone 8) .t42d 8 0 ∧ (encDone 8).enc.outPos % 8 = 0 ∧ 0 < (1 : Word).toNat ∧
      (encDone 8).enc.emitted ≤ (encDone 8).enc.outPos ∧ (encDone 8).enc.termDone = true) := by decide

/-- The allocator's script is no part of the invariant. -/
theorem encInv_alloc {p : Params} {e : Enc} (h : EncInv p e) (a : Alloc) : EncInv p { e with alloc := a } := { h with }

theorem witness_emitAppendsToTheBitstream :
    EncInv par encMid.enc ∧ (encMid.enc.emit 1 [true, false]).nomem = false ∧
    EncInv par { encMid.enc with alloc := ⟨[false], 0⟩ } ∧
    (Enc.emit 1 [true, false] { encMid.enc with alloc := ⟨[false], 0⟩ }).nomem = true :=
  ⟨witness_encInv, by decide, encInv_alloc witness_encInv _, by decide⟩

theorem witness_failedGrowthEndsThePage :
    (let e := { encMid.enc with alloc := ⟨[false], 0⟩ };
      e.nomem = false ∧ e.accBits = 7 ∧ e.outBytes = e.outCap ∧ e.alloc.script.head? = some false ∧
      e.alloc.script.tail = []) ∧
    ({ encMid.enc with nomem := true } : Enc).nomem = true := by decide

theorem witness_encInv_tx : EncInv par (tx .t42d 8).enc where
  outWf := by decide
  outListed := by decide
  outCap := by decide
  accBits := by decide
  accClean := by decide
  cfgWidth := by intro x h; cases h; decide
  pageWidth := by intro x h; cases h; decide
  cfgMinRowBits := by decide
  pageCfg := by decide
  pageK := fun _ _ => ⟨2, by decide, by decide⟩
  pageRef := by intro _ w h; cases h; decide
  doneWhole := by decide
  nomemDone := by decide
  sourceDone := by decide
  errorDone := by decide
  rowsFit := by decide

theorem witness_pulledRowIsAppended : ∀ m ∈ [Mode.t41d, .t42d, .t6],
    let pg : TxPage := ⟨m, 8, 2, 40, 1⟩
    1 ≤ pg.outGrow ∧ 1 ≤ pg.w ∧
    (tx .t42d 8).enc.source.script = ⟨bytesPerRow pg.w, [0x3C]⟩ :: [⟨0, []⟩] ∧ [(0x3C : Byte)].length = bytesPerRow pg.w ∧
    answers ({ (tx .t42d 8).enc with alloc := ⟨List.replicate 6 true, 0⟩ }.encodeNextRow pg) (fun t => !t.nomem) = true := by
  decide

theorem witness_pulledEndTerminatesThePage : ∀ a ∈ [RowAnswer.mk 0 [], ⟨-1, []⟩],
    let e := { (tx .t42d 8).enc with source := ⟨[a], 0, [], 1⟩, alloc := ⟨List.replicate 12 true, 0⟩ }
    e.source.script = a :: [] ∧ a.count ≤ 0 ∧
    answers (e.encodeNextRow ⟨.t42d, 8, 2, 0, 1⟩) (fun t => !t.nomem && t.outBytes == 10) = true := by decide

theorem witness_ensureMakesTheBitAvailable :
    answers ((tx .t42d 8).enc.ensure ⟨.t42d, 8, 2, 0, 1⟩ 20) (fun t => t.emitted == 24) = true ∧
    answers (exec (.txGetChunk 1 [0]) encMid) (fun t => t.enc.outPos == 8) = true := by decide

theorem witness_everyKthRowIsOneDimensional :
    1 ≤ 1 ∧ (countdown 1 0).1 = false ∧ (countdown 1 ((fun c => (countdown 1 c).2)^[3] 0)).1 = false ∧
    (countdown 2 ((fun c => (countdown 2 c).2)^[3] 0)).1 = true := by decide

/-- Pass, every Vertical and Horizontal, on rows of width 8. -/
theorem witness_modesAreTriedInOrder :
    (let cur := unpack [0x00] 8; let ref := unpack [0x60] 8;
      (-1 : Int) < cur.length ∧ b2Of ref (-1) .white < nextChange cur (-1)) ∧
    (∀ x ∈ [((0x0F : Byte), (0 : Int)), (0x07, 1), (0x03, 2), (0x01, 3), (0x1F, -1), (0x3F, -2), (0x7F, -3)],
      let cur := unpack [x.1] 8
      let ref := unpack [0x0F] 8
      nextChange cur (-1) ≤ b2Of ref (-1) .white ∧ (nextChange cur (-1) : Int) - b1Of ref (-1) .white = x.2) ∧
    (let cur := unpack [0xF0] 8; let ref := unpack [0x00] 8;
      nextChange cur (-1) ≤ b2Of ref (-1) .white ∧
        3 < ((nextChange cur (-1) : Int) - b1Of ref (-1) .white).natAbs) := by decide

theorem witness_changingElementsAreNearest : ∃ change : Nat → Prop, ∀ i, change i ↔
    i < (unpack [0x3C] 8).length ∧ (unpack [0x3C] 8)[i]? ≠ (if i = 0 then some .white else (unpack [0x3C] 8)[i - 1]?) :=
  ⟨_, fun _ => Iff.rfl⟩

theorem witness_oneDimensionalRoundTrip :
    InRxPage (rx .t41d 8) .t41d 8 ∧ 4 ≤ (rx .t41d 8).par.runMargin ∧ (unpack [0x3C] 8).length = (8 : Word).toNat ∧
    (rx .t41d 8).dec.rowIs2d = false ∧ (rx .t41d 8).dec.curRuns = [] ∧ (rx .t41d 8).dec.runAcc = 0 ∧
    (rx .t41d 8).dec.color = .white ∧
    answers (readAll (codes1d (runsOf (unpack [0x3C] 8))) (rx .t41d 8)) (fun t => t.dec.curRuns == [2, 4, 2]) = true := by
  decide

theorem witness_twoDimensionalRoundTrip :
    InRxPage (row2d [2, 4, 2]) .t42d 8 ∧ 4 ≤ (row2d [2, 4, 2]).par.runMargin ∧ (unpack [0xF0] 8).length = (8 : Word).toNat ∧
    (row2d [2, 4, 2]).dec.rowIs2d = true ∧ (row2d [2, 4, 2]).dec.curRuns = [] ∧ (row2d [2, 4, 2]).dec.runAcc = 0 ∧
    (row2d [2, 4, 2]).dec.a0 = -1 ∧ (row2d [2, 4, 2]).dec.color = .white ∧ (row2d [2, 4, 2]).dec.hpair = .none ∧
    answers (readAll (codes2d (unpack [0xF0] 8) (expand [2, 4, 2] 8)) (row2d [2, 4, 2])) (fun t =>
      expand t.dec.curRuns 8 == unpack [0xF0] 8) = true := by decide

/-- The `T6` row of the same pixels, with room for it. -/
theorem witness_twoDimensionalRoundTripInT6 :
    let s := lastCode [2, 4, 2]
    InRxPage s .t6 8 ∧ 4 ≤ s.par.runMargin ∧ 1 ≤ (8 : Word).toNat ∧ s.dec.rowIs2d = true ∧ s.dec.curRuns = [] ∧
    s.dec.runAcc = 0 ∧ s.dec.a0 = -1 ∧ s.dec.color = .white ∧ s.dec.hpair = .none ∧ s.dec.codes = 0 ∧
    s.dec.overflow = false ∧ s.dec.rows < s.dec.imgCapRows ∧ s.dec.rows + 1 < 2 ^ 32 ∧
    answers (readAll (codes2d (unpack [0xF0] 8) (expand [2, 4, 2] 8)) s) (fun t =>
      t.dec.rows == 1 && readByte t.dec.img 0 == some 0xF0) = true := by decide

end Sys2Proof.Tests
end

section
/-! PROOFS. A step runs the decoded instruction (R85, R91, R204): a due decision reads a full window, so that its view of
the window is the window itself. -/

namespace Sys2Proof.Machine

/-- A mask of 13 or more ones covers the window. -/
theorem windowMask_eq_allOnes {n : Nat} (h : 13 ≤ n) : BitVec.ofNat 13 (2 ^ n - 1) = BitVec.allOnes 13 := by
  obtain ⟨k, rfl⟩ := Nat.exists_eq_add_of_le h
  have hk : 1 ≤ 2 ^ k := Nat.one_le_two_pow
  apply BitVec.eq_of_toNat_eq
  rw [BitVec.toNat_ofNat, BitVec.toNat_allOnes, Nat.pow_add]
  omega

/-- A full window is read as it stands (R144). -/
theorem view_eq_win {d : Dec} (h : 13 ≤ d.winCount) : d.view = d.win := by
  rw [Dec.view, windowMask_eq_allOnes h, BitVec.and_allOnes]

/-- A due decision reads the window itself (R201, R202). -/
theorem view_eq_win_of_decisionDue {s : State} (h : decisionDue s = true) : s.dec.view = s.dec.win := by
  have hw : Config.winMin ≤ s.dec.winCount := by
    simp only [decisionDue, Dec.ready, Bool.and_eq_true, decide_eq_true_eq] at h
    exact h.2.1.1
  exact view_eq_win hw

/-- An EOL in the window is the decision, before anything else (R204). -/
theorem decision_of_eol {d : Dec} {i : Instr} (he : isEol d.view = true)
    (hi : decodeCode (.eol d.tagged) d.view = .ok i) : d.decision = .code i := by
  simp [Dec.decision, he, hi]

/-- Without an EOL, a skip and a hunt, the code word in the context of the row is the decision (R204). -/
theorem decision_of_context {d : Dec} {i : Instr} (he : isEol d.view = false) (hs : d.skip = 0) (hc : d.eolCount ≠ -1)
    (hi : decodeCode d.context d.view = .ok i) : d.decision = .code i := by
  simp [Dec.decision, he, hs, hc, hi]

/-- A step with a code word decided is `exec` of it (R201, R204). -/
theorem step_eq_exec_of_decision {s : State} {i : Instr} (h : decisionDue s = true) (hd : s.dec.decision = .code i) :
    step s = exec i s := by
  rw [step_eq_decide1 h, decide1_eq, hd]

/-- The context of R91 and R204, as a condition on the row. -/
theorem context_eq_ite (d : Dec) :
    d.context = if d.rowIs2d ∧ d.hpair = .none then .mode2d else .run d.color := by
  simp [Dec.context]

/-- Settles O7: a command is decoded from the head of the queue, and a due decision from the window, which is full. -/
theorem stepRunsTheDecodedInstruction : Obligations.StepRunsTheDecodedInstruction := by
  refine ⟨fun s c rest i hdue hq hi => step_eq_exec hdue hq hi, fun s i hdue he hi => ?_, fun s i hdue he hs hc hi => ?_⟩
  · rw [← view_eq_win_of_decisionDue hdue] at he hi
    exact step_eq_exec_of_decision hdue (decision_of_eol he hi)
  · rw [← view_eq_win_of_decisionDue hdue] at he hi
    rw [← context_eq_ite] at hi
    exact step_eq_exec_of_decision hdue (decision_of_context he hs hc hi)

end Sys2Proof.Machine
end

section
/-! PROOFS. What the rows of the code tables mean to `exec` (R92 to R99, R104, R105): a terminating row closes the run of its
index, a make-up row extends the open run by its value, a Vertical code word has its offset. -/

namespace Sys2Proof.Machine

/-- A terminating row's code word closes a run of the row's length (R230, R231). -/
theorem exec_of_mem_termRows (c : Color) :
    ∀ r ∈ termRows c, ∀ s, exec r.instr s = terminatingCode r.len r.run s := by
  refine List.forall_iff_forall_mem.mp ?_
  cases c
  case white =>
    simp only [termRows, whiteTermRows, List.cons_append, List.nil_append, List.Forall]
    and_intros <;> exact fun _ => rfl
  case black =>
    simp only [termRows, blackTermRows, List.cons_append, List.nil_append, List.Forall]
    and_intros <;> exact fun _ => rfl

/-- A make-up row's code word extends the open run by the row's length (R232 to R234). -/
theorem exec_of_mem_makeupRows :
    ∀ r ∈ whiteMakeupRows ++ blackMakeupRows ++ extMakeupRows, ∀ s, exec r.instr s = makeupCode r.len r.run s := by
  refine List.forall_iff_forall_mem.mp ?_
  simp only [whiteMakeupRows, blackMakeupRows, extMakeupRows, List.cons_append, List.nil_append, List.Forall]
  and_intros <;> exact fun _ => rfl

/-- The table index of a terminating row is its run (R104). -/
theorem map_run_termRows (c : Color) : (termRows c).map CodeRow.run = List.range 64 := by cases c <;> rfl

/-- Make-up rows up to 1728 stand in steps of 64 (R95, R96). -/
theorem map_run_makeupRows (c : Color) : (makeupRows c).map CodeRow.run = (List.range 27).map fun k => 64 * (k + 1) := by
  cases c <;> rfl

/-- Extended make-up rows go on from 1792 in steps of 64 (R97). -/
theorem map_run_extMakeupRows : extMakeupRows.map CodeRow.run = (List.range 13).map fun k => 1792 + 64 * k := rfl

/-- The run of a row, from its index, where the runs of the table are a function of the index. -/
theorem run_of_getElem? {rows : List CodeRow} {f : Nat → Nat} {n k : Nat} {r : CodeRow}
    (hf : rows.map CodeRow.run = (List.range n).map f) (hr : rows[k]? = some r) : r.run = f k := by
  have h := congrArg (·[k]?) hf
  simp only [List.getElem?_map, hr, Option.map_some] at h
  obtain ⟨j, hj, hrun⟩ := Option.map_eq_some_iff.mp h.symm
  rw [List.getElem?_range (by simpa using (List.getElem?_eq_some_iff.mp hj).1)] at hj
  rw [← hrun, ← Option.some.inj hj]

/-- The terminating code word of index `n` in either table closes a run of `n` (R104, R230, R231). -/
theorem exec_termRow {n : Nat} {r : CodeRow} (h : whiteTermRows[n]? = some r ∨ blackTermRows[n]? = some r) (s : State) :
    exec r.instr s = terminatingCode r.len n s := by
  have row (c : Color) (hr : (termRows c)[n]? = some r) : exec r.instr s = terminatingCode r.len n s := by
    have hrun : r.run = n := run_of_getElem? (f := id) (by simpa using map_run_termRows c) hr
    rw [exec_of_mem_termRows c r (List.mem_of_getElem? hr) s, hrun]
  exact h.elim (row .white) (row .black)

/-- The make-up code word of an index extends the open run by the value of that index (R104, R232 to R234). -/
theorem exec_makeupRow {k v : Nat} {r : CodeRow}
    (h : ((whiteMakeupRows[k]? = some r ∨ blackMakeupRows[k]? = some r) ∧ v = 64 * (k + 1)) ∨
      (extMakeupRows[k]? = some r ∧ v = 1792 + 64 * k)) (s : State) :
    exec r.instr s = makeupCode r.len v s := by
  rcases h with ⟨hr | hr, rfl⟩ | ⟨hr, rfl⟩
  · rw [exec_of_mem_makeupRows r (by simp [List.mem_of_getElem? hr]) s, run_of_getElem? (map_run_makeupRows .white) hr]
  · rw [exec_of_mem_makeupRows r (by simp [List.mem_of_getElem? hr]) s, run_of_getElem? (map_run_makeupRows .black) hr]
  · rw [exec_of_mem_makeupRows r (by simp [List.mem_of_getElem? hr]) s, run_of_getElem? map_run_extMakeupRows hr]

/-- The Vertical code words and their offsets (R105, R219 to R225). -/
def verticalRows : List (Instr × Int) :=
  [(.v0, 0), (.vr1, 1), (.vr2, 2), (.vr3, 3), (.vl1, -1), (.vl2, -2), (.vl3, -3)]

/-- A Vertical code word means `vertical` of its offset (R213, R219 to R225). -/
theorem exec_verticalRow : ∀ x ∈ verticalRows, ∀ s, exec x.1 s = verticalCode (codeBits x.1).length x.2 s := by
  refine List.forall_iff_forall_mem.mp ?_
  simp only [verticalRows, List.Forall]
  and_intros <;> exact fun _ => rfl

end Sys2Proof.Machine
end

section
/-! PROOFS. The bound of R12 and R333: a run, or a row total, that would reach it faults. -/

namespace Sys2Proof.Machine

/-- A run that would reach the bound, or that would carry the row's total there, faults (R12, R333). -/
theorem appendRun_fault {cap v : Nat} {d : Dec}
    (h : Config.runLimit ≤ v ∨ (d.curRuns.length < cap - 2 ∧ Config.runLimit ≤ d.curRuns.sum + v)) :
    d.appendRun cap v = .fault .runLimit := by
  unfold Dec.appendRun
  split
  · rfl
  · rename_i hv
    obtain ⟨hlen, hsum⟩ := h.resolve_left hv
    rw [if_neg (Nat.not_le.mpr hlen), if_pos hsum]

/-- An open run that would carry the row's total to the bound faults (R12, R333). -/
theorem addRun_fault {n : Nat} {d : Dec} (h : Config.runLimit ≤ d.rowLen + n) : d.addRun n = .fault .runLimit := if_pos h

/-- A code word that faults on the row faults. -/
theorem onRow_fault {s : State} {pg : RxPage} {f : RxPage → Dec → Res Dec} {x : Fault} (hp : rxPage s = .next pg)
    (hf : f pg s.dec = .fault x) : onRow s f = .fault x := by
  rw [onRow_eq hp, hf, andThen_fault]

/-- The run that a code word of `n` pixels closes, at the bound (R12, R333, log 15). -/
theorem appendRun_runAcc_fault {cap n : Nat} {d : Dec}
    (h : Config.runLimit ≤ d.runAcc + n ∨ (d.curRuns.length < cap - 2 ∧ Config.runLimit ≤ d.rowLen + n)) :
    d.appendRun cap (d.runAcc + n) = .fault .runLimit :=
  appendRun_fault (h.imp_right fun ⟨hroom, htotal⟩ => ⟨hroom, Nat.add_assoc .. ▸ htotal⟩)

theorem terminate_fault {pg : RxPage} {n : Nat} {d : Dec}
    (h : Config.runLimit ≤ d.runAcc + n ∨ (d.curRuns.length < pg.runsCap - 2 ∧ Config.runLimit ≤ d.rowLen + n)) :
    d.terminate n pg = .fault .runLimit := by
  rw [Dec.terminate, appendRun_runAcc_fault h, andThen_fault]

theorem vertical_fault {pg : RxPage} {off : Int} {d : Dec} (hvalid : d.start ≤ d.b1 pg + off)
    (h : Config.runLimit ≤ d.runAcc + (d.b1 pg + off - d.start).toNat ∨
      (d.curRuns.length < pg.runsCap - 2 ∧ Config.runLimit ≤ d.rowLen + (d.b1 pg + off - d.start).toNat)) :
    d.vertical off pg = .fault .runLimit := by
  rw [vertical_valid hvalid, appendRun_runAcc_fault h, andThen_fault]

theorem pass_fault {pg : RxPage} {d : Dec} (hvalid : d.start ≤ d.b2 pg)
    (h : Config.runLimit ≤ d.rowLen + (d.b2 pg - d.start).toNat) : d.pass pg = .fault .runLimit := by
  rw [pass_valid hvalid, addRun_fault h, andThen_fault]

/-- Settles O31: the test of the bound faults in `addRun` (make-up codes, P) or in `appendRun` (terminating codes, V). -/
theorem runLimitFaults : Obligations.RunLimitFaults := by
  intro s m w ⟨hlife, hmode, hwidth⟩
  have hp : rxPage s = .next (rxPageOf s m w) := rxPage_eq hlife hmode hwidth
  refine ⟨fun k v r hr hlim => ?_, fun n r hr hlim => ?_, fun x a1 hx ha1 hvalid hlim => ?_, fun b2 hb2 hvalid hlim => ?_⟩
  · rw [exec_makeupRow hr]
    exact onRow_fault hp (addRun_fault hlim)
  · rw [exec_termRow hr]
    exact onRow_fault hp (terminate_fault hlim)
  · subst ha1
    rw [exec_verticalRow x hx]
    exact onRow_fault hp (vertical_fault hvalid hlim)
  · subst hb2
    change execPass s = _
    exact onRow_fault hp (pass_fault hvalid hlim)

end Sys2Proof.Machine
end

section
/-! PROOFS. The channels share no state (R86, R340): each instruction is an operation of one channel, and operations that do
not touch a part of the state compose. -/

namespace Sys2Proof.Machine
/-- An operation that does not touch a part of the state, read by `get` and replaced by `put`: where it answers, it leaves
that part, the parameters and the queue as they are, and does the same whatever that part holds. -/
def Ignores {κ : Type} (get : State → κ) (put : State → κ → State) (f : State → Res State) : Prop :=
  ∀ s t, f s = .next t →
    t.par = s.par ∧ t.host.queue = s.host.queue ∧ get t = get s ∧ ∀ k, f (put s k) = .next (put t k)

/-- An operation of the decoder: it does not touch the encoder (R7, R86). -/
abbrev DecOnly : (State → Res State) → Prop := Ignores State.enc State.withEnc

/-- An operation of the encoder: it does not touch the decoder (R7, R86). -/
abbrev EncOnly : (State → Res State) → Prop := Ignores State.dec State.withDec

namespace Ignores

variable {κ α : Type} {get : State → κ} {put : State → κ → State}

theorem next : Ignores get put .next := by
  rintro s t ⟨⟩
  exact ⟨rfl, rfl, rfl, fun _ => rfl⟩

theorem fault (x : Fault) : Ignores get put fun _ => .fault x := fun _ _ h => nomatch h

theorem refused (g : State → Refusal) : Ignores get put fun s => .refused (g s) := fun _ _ h => nomatch h

/-- One operation after the other. -/
theorem seq {f g : State → Res State} (hf : Ignores get put f) (hg : Ignores get put g) :
    Ignores get put fun s => andThen (f s) g := by
  intro s t h
  obtain ⟨u, hu, ht⟩ := andThen_eq_next h
  obtain ⟨hpar, hqueue, hget, hf⟩ := hf s u hu
  obtain ⟨hpar', hqueue', hget', hg⟩ := hg u t ht
  refine ⟨hpar'.trans hpar, hqueue'.trans hqueue, hget'.trans hget, fun k => ?_⟩
  show andThen (f (put s k)) g = _
  rw [hf k, andThen_next, hg k]

/-- What is done may depend on what is read of the rest of the state. -/
theorem depends {g : State → α} {f : α → State → Res State} (hg : ∀ s k, g (put s k) = g s)
    (hf : ∀ s, Ignores get put (f (g s))) : Ignores get put fun s => f (g s) s := by
  intro s t h
  obtain ⟨hpar, hqueue, hget, hput⟩ := hf s s t h
  refine ⟨hpar, hqueue, hget, fun k => ?_⟩
  show f (g (put s k)) (put s k) = _
  rw [hg, hput]

/-- A value of the rest of the state that is read first. -/
theorem bind {g : State → Res α} {f : α → State → Res State} (hg : ∀ s k, g (put s k) = g s)
    (hf : ∀ a, Ignores get put (f a)) : Ignores get put fun s => andThen (g s) fun a => f a s := by
  refine depends (f := fun r s => andThen r fun a => f a s) hg fun s => ?_
  cases g s with
  | next a => exact hf a
  | fault x => exact fault x
  | refused x => exact refused fun _ => x

/-- A choice by a condition on the rest of the state. -/
theorem ite {c : State → Prop} [∀ s, Decidable (c s)] {f g : State → Res State} (hc : ∀ s k, c (put s k) ↔ c s)
    (hf : Ignores get put f) (hg : Ignores get put g) : Ignores get put fun s => if c s then f s else g s := by
  intro s t h
  by_cases hs : c s
  · obtain ⟨hpar, hqueue, hget, hput⟩ := hf s t ((if_pos hs).symm.trans h)
    exact ⟨hpar, hqueue, hget, fun k => (if_pos ((hc s k).mpr hs)).trans (hput k)⟩
  · obtain ⟨hpar, hqueue, hget, hput⟩ := hg s t ((if_neg hs).symm.trans h)
    exact ⟨hpar, hqueue, hget, fun k => (if_neg (mt (hc s k).mp hs)).trans (hput k)⟩

/-- A guard on the rest of the state. -/
theorem guarded {c : State → Bool} {r : State → Refusal} {f : State → Res State} (hc : ∀ s k, c (put s k) = c s)
    (hf : Ignores get put f) : Ignores get put fun s => admitIf (c s) (r s) (f s) :=
  ite (fun s k => by rw [hc]) hf (refused r)

end Ignores

/-! ## The transmit commands -/

/-- The end of a transmit command. -/
theorem Ignores.finishTx {e : State → Enc} {r : State → CmdResult} (he : ∀ s d, e (s.withDec d) = e s)
    (hr : ∀ s d, r (s.withDec d) = r s) : EncOnly fun s => s.finishTx (e s) (r s) := by
  rintro s t ⟨⟩
  refine ⟨rfl, rfl, rfl, fun d => ?_⟩
  simp only [finishTx_eq, he, hr]
  rfl

theorem execTxSetMode_encOnly (mode : BitVec 2) : EncOnly (execTxSetMode mode) := by
  refine .guarded (fun _ _ => rfl) ?_
  cases modeOfCode mode with
  | some m => exact .finishTx (fun _ _ => rfl) fun _ _ => rfl
  | none => exact .refused _

theorem execTxStartPage_encOnly : EncOnly execTxStartPage := by
  refine .guarded (fun _ _ => rfl) (.guarded (fun _ _ => rfl) ?_)
  refine .depends (g := fun s => s.enc.alloc.grow Config.txAllocAnswer) (f := fun x s => match x with
    | (true, a) => s.finishTx (Enc.startPage s.par { s.enc with alloc := a }) (.status statusOk)
    | (false, a) => s.finishTx { s.enc with alloc := a } (.status statusNomem)) (fun _ _ => rfl) fun s => ?_
  rcases s.enc.alloc.grow Config.txAllocAnswer with ⟨_ | _, a⟩ <;> exact .finishTx (fun _ _ => rfl) fun _ _ => rfl

theorem execTxEndPage_encOnly : EncOnly execTxEndPage :=
  .bind (fun _ _ => rfl) fun _ => .bind (fun _ _ => rfl) fun _ => .finishTx (fun _ _ => rfl) fun _ _ => rfl

theorem execTxGetBit_encOnly : EncOnly execTxGetBit :=
  .bind (fun _ _ => rfl) fun _ => .bind (fun _ _ => rfl) fun _ =>
    .ite (fun _ _ => .rfl) (.finishTx (fun _ _ => rfl) fun _ _ => rfl) <|
      .bind (fun _ _ => rfl) fun _ => .bind (fun _ _ => rfl) fun _ => .finishTx (fun _ _ => rfl) fun _ _ => rfl

theorem execTxGetByte_encOnly : EncOnly execTxGetByte := by
  refine .bind (fun _ _ => rfl) fun pg => .guarded (fun _ _ => rfl) (.bind (fun _ _ => rfl) fun r => ?_)
  rcases r with ⟨_ | v, e⟩
  · exact .finishTx (fun _ _ => rfl) fun _ _ => rfl
  · exact .bind (fun _ _ => rfl) fun e => .finishTx (fun _ _ => rfl) fun _ _ => rfl

theorem execTxGetChunk_encOnly (maxLen : Word) (buf : List Byte) : EncOnly (execTxGetChunk maxLen buf) :=
  .bind (fun _ _ => rfl) fun _ => .guarded (fun _ _ => rfl) <| .guarded (fun _ _ => rfl) <| .guarded (fun _ _ => rfl) <|
    .bind (fun _ _ => rfl) fun _ => .finishTx (fun _ _ => rfl) fun _ _ => rfl

/-- A transmit command does not touch the decoder (R86). -/
theorem exec_encOnly {i : Instr} (h : isTx i = true) : EncOnly (exec i) := by
  cases i with
  | txInit => exact .guarded (fun _ _ => rfl) (.finishTx (fun _ _ => rfl) fun _ _ => rfl)
  | txRelease => exact .finishTx (fun _ _ => rfl) fun _ _ => rfl
  | txSetMode mode => exact execTxSetMode_encOnly mode
  | txSetWidth width =>
    exact .guarded (fun _ _ => rfl) (.guarded (fun _ _ => rfl) (.finishTx (fun _ _ => rfl) fun _ _ => rfl))
  | txSetXres code => exact .guarded (fun _ _ => rfl) (.finishTx (fun _ _ => rfl) fun _ _ => rfl)
  | txSetYres code => exact .guarded (fun _ _ => rfl) (.finishTx (fun _ _ => rfl) fun _ _ => rfl)
  | txSetMinRowBits bits => exact .guarded (fun _ _ => rfl) (.finishTx (fun _ _ => rfl) fun _ _ => rfl)
  | txStartPage => exact execTxStartPage_encOnly
  | txEndPage => exact execTxEndPage_encOnly
  | txRestartPage => exact .guarded (fun _ _ => rfl) (.finishTx (fun _ _ => rfl) fun _ _ => rfl)
  | txNextPageDifferent => exact .guarded (fun _ _ => rfl) (.finishTx (fun _ _ => rfl) fun _ _ => rfl)
  | txGetBit => exact execTxGetBit_encOnly
  | txGetByte => exact execTxGetByte_encOnly
  | txGetChunk maxLen buf => exact execTxGetChunk_encOnly maxLen buf
  | txGetStats => exact .guarded (fun _ _ => rfl) (.finishTx (fun _ _ => rfl) fun _ _ => rfl)
  | _ => cases h

/-! ## The decoder's decisions -/

/-- The decoder replaced by one that is read off the decoder. -/
theorem Ignores.answerDec {d : State → Dec} (hd : ∀ s e, d (s.withEnc e) = d s) : DecOnly fun s => .next (s.withDec (d s)) := by
  rintro s t ⟨⟩
  refine ⟨rfl, rfl, rfl, fun e => ?_⟩
  simp only [hd]
  rfl

/-- An operation on the state with another decoder. -/
theorem Ignores.afterDec {d : State → Dec} {f : State → Res State} (hd : ∀ s e, d (s.withEnc e) = d s) (hf : DecOnly f) :
    DecOnly fun s => f (s.withDec (d s)) := .seq (.answerDec hd) hf

/-- A step on the row in progress, `onRow` written out: the form in which Lean finds it in a code word's meaning. -/
theorem Ignores.onRow {g : RxPage → State → Res Dec} (hg : ∀ pg s e, g pg (s.withEnc e) = g pg s) :
    DecOnly fun s => andThen (rxPage s) fun pg => andThen (g pg s) fun d => .next (s.withDec d) :=
  .bind (fun _ _ => rfl) fun pg => .bind (hg pg) fun _ => .answerDec fun _ _ => rfl

/-- A code word does not touch the encoder (R86). -/
theorem exec_codeWord_decOnly {i : Instr} (h : isCodeWord i = true) : DecOnly (exec i) := by
  cases i <;> first | exact .onRow fun _ _ _ => rfl | exact Bool.noConfusion h

theorem decide1_decOnly : DecOnly decide1 := by
  refine .depends (g := fun s => s.dec.decision) (f := fun dn s => match dn with
    | .code i => runCode i s
    | .skip => bitDecision .skip s
    | .hunt => bitDecision .hunt s
    | .unmatched => bitDecision .unmatched s) (fun _ _ => rfl) fun s => ?_
  cases hd : s.dec.decision with
  | code i =>
    simp only [funext (runCode_eq_exec (isCodeWord_of_decision hd))]
    exact exec_codeWord_decOnly (isCodeWord_of_decision hd)
  | skip => exact .onRow fun _ _ _ => rfl
  | hunt => exact .onRow fun _ _ _ => rfl
  | unmatched => exact .onRow fun _ _ _ => rfl

theorem decisionLoop_decOnly (fuel : Nat) : DecOnly (decisionLoop fuel) := by
  induction fuel with
  | zero => exact .next
  | succ n ih => exact .ite (fun _ _ => .rfl) (.seq decide1_decOnly ih) .next

theorem drainLoop_decOnly (fuel : Nat) : DecOnly (drainLoop fuel) := by
  induction fuel with
  | zero => exact .next
  | succ n ih => exact .ite (fun _ _ => .rfl) (.seq decide1_decOnly ih) .next

theorem decodeBit_decOnly (b : Bool) : DecOnly (decodeBit b) := by
  refine .ite (fun _ _ => .rfl) .next (.ite (fun _ _ => .rfl) ?_ (.fault _))
  refine .depends (g := fun s => s.dec.winCount) (f := fun n s => decisionLoop (n + 1) (s.withDec (s.dec.append b)))
    (fun _ _ => rfl) fun s => ?_
  exact .afterDec (fun _ _ => rfl) (decisionLoop_decOnly _)

theorem decodeBits_decOnly (bits : List Bool) : DecOnly (decodeBits bits) := by
  induction bits with
  | nil => exact .next
  | cons b bits ih => exact .seq (decodeBit_decOnly b) ih

/-! ## The receive commands -/

/-- The end of a receive command. -/
theorem Ignores.finishRx {d : State → Dec} {r : State → CmdResult} (hd : ∀ s e, d (s.withEnc e) = d s)
    (hr : ∀ s e, r (s.withEnc e) = r s) : DecOnly fun s => s.finishRx (d s) (r s) := by
  rintro s t ⟨⟩
  refine ⟨rfl, rfl, rfl, fun e => ?_⟩
  simp only [finishRx_eq, hd, hr]
  rfl

theorem execRxSetMode_decOnly (mode : BitVec 2) : DecOnly (execRxSetMode mode) := by
  refine .guarded (fun _ _ => rfl) ?_
  cases modeOfCode mode with
  | some m => exact .finishRx (fun _ _ => rfl) fun _ _ => rfl
  | none => exact .refused _

theorem execRxStartPage_decOnly : DecOnly execRxStartPage := by
  refine .guarded (fun _ _ => rfl) (.guarded (fun _ _ => rfl) ?_)
  refine .depends (g := fun s => s.dec.alloc.grow Config.rxAllocAnswer) (f := fun x s => match x with
    | (true, a) => s.finishRx (Dec.startPage { s.dec with alloc := a }) (.status statusOk)
    | (false, a) => s.finishRx { s.dec with alloc := a } (.status statusNomem)) (fun _ _ => rfl) fun s => ?_
  rcases s.dec.alloc.grow Config.rxAllocAnswer with ⟨_ | _, a⟩ <;> exact .finishRx (fun _ _ => rfl) fun _ _ => rfl

theorem commitPartial_decOnly : DecOnly commitPartial := .ite (fun _ _ => .rfl) (.onRow fun _ _ _ => rfl) .next

theorem closePage_decOnly (pg : RxPage) : DecOnly (closePage pg) :=
  .bind (fun _ _ => rfl) fun _ => .finishRx (fun _ _ => rfl) fun _ _ => rfl

theorem drain_decOnly : DecOnly drain :=
  .depends (g := fun s => s.dec.winCount) (f := drainLoop) (fun _ _ => rfl) fun s => drainLoop_decOnly s.dec.winCount

theorem execRxEndPage_decOnly : DecOnly execRxEndPage :=
  .bind (fun _ _ => rfl) fun pg => .seq drain_decOnly (.seq commitPartial_decOnly (closePage_decOnly pg))

theorem putBits_decOnly (bits : List Bool) : DecOnly (putBits bits) :=
  .bind (fun _ _ => rfl) fun _ =>
    .seq (.afterDec (fun _ _ => rfl) (decodeBits_decOnly bits)) <|
      .finishRx (d := fun s => s.dec) (r := fun s => .status (putStatus s.dec)) (fun _ _ => rfl) fun _ _ => rfl

/-- A receive command does not touch the encoder (R86). -/
theorem exec_decOnly {i : Instr} (h : isTx i = false) : DecOnly (exec i) := by
  by_cases hi : isCodeWord i = true
  · exact exec_codeWord_decOnly hi
  cases i with
  | rxInit => exact .guarded (fun _ _ => rfl) (.finishRx (fun _ _ => rfl) fun _ _ => rfl)
  | rxRelease => exact .finishRx (fun _ _ => rfl) fun _ _ => rfl
  | rxSetMode mode => exact execRxSetMode_decOnly mode
  | rxSetWidth width =>
    exact .guarded (fun _ _ => rfl) (.guarded (fun _ _ => rfl) (.finishRx (fun _ _ => rfl) fun _ _ => rfl))
  | rxSetXres code => exact .guarded (fun _ _ => rfl) (.finishRx (fun _ _ => rfl) fun _ _ => rfl)
  | rxSetYres code => exact .guarded (fun _ _ => rfl) (.finishRx (fun _ _ => rfl) fun _ _ => rfl)
  | rxStartPage => exact execRxStartPage_decOnly
  | rxEndPage => exact execRxEndPage_decOnly
  | rxPutBit bit => exact putBits_decOnly [bit]
  | rxPutByte byte => exact putBits_decOnly (bitsOfByte byte)
  | rxPutChunk len buf => exact .guarded (fun _ _ => rfl) (.guarded (fun _ _ => rfl) (putBits_decOnly _))
  | rxGetStats => exact .guarded (fun _ _ => rfl) (.finishRx (fun _ _ => rfl) fun _ _ => rfl)
  | _ => first | exact Bool.noConfusion h | exact absurd rfl hi

/-- Settles O14: a transmit command does not touch the decoder, any other instruction does not touch the encoder. -/
theorem channelsShareNoState : Obligations.ChannelsShareNoState := by
  intro i s t h
  cases hi : isTx i with
  | true =>
    obtain ⟨hpar, hqueue, hdec, hobs⟩ := exec_encOnly hi s t h
    exact ⟨hpar, hqueue, fun _ => ⟨hdec, hobs⟩, fun hx => nomatch hx⟩
  | false =>
    obtain ⟨hpar, hqueue, henc, hobs⟩ := exec_decOnly hi s t h
    exact ⟨hpar, hqueue, fun hx => (nomatch hx), fun _ => ⟨henc, hobs⟩⟩

end Sys2Proof.Machine
end

section
/-! PROOFS. The scanner (R120 to R128): the changing elements of a row, the constant pixels between two of them, and the pixels
of a list of runs. -/

namespace Sys2Proof.Machine

/-! ## Changing elements (R125) -/

theorem changesFrom_cons (prev : Color) (i : Nat) (p : Color) (ps : List Color) :
    changesFrom prev i (p :: ps) =
      if p = prev then changesFrom prev (i + 1) ps else (i, p) :: changesFrom p (i + 1) ps := rfl

/-- The changing elements are the pixels that differ from the pixel before. -/
theorem mem_changesFrom {prev c : Color} {i k : Nat} {ps : List Color} :
    (k, c) ∈ changesFrom prev i ps ↔ ∃ j, k = i + j ∧ ps[j]? = some c ∧ (prev :: ps)[j]? ≠ some c := by
  induction ps generalizing prev i with
  | nil => simp [changesFrom]
  | cons p ps ih =>
    have first_or_later : (∃ j, k = i + j ∧ (p :: ps)[j]? = some c ∧ (prev :: p :: ps)[j]? ≠ some c) ↔
        (k = i ∧ p = c ∧ prev ≠ c) ∨ (k, c) ∈ changesFrom p (i + 1) ps := by
      rw [ih]
      constructor
      · rintro ⟨_ | j, hk, hc, hne⟩
        · exact .inl ⟨hk, by simpa using hc, by simpa using hne⟩
        · exact .inr ⟨j, by omega, hc, hne⟩
      · rintro (⟨hk, hc, hne⟩ | ⟨j, hk, hc, hne⟩)
        · exact ⟨0, hk, by simpa using hc, by simpa using hne⟩
        · exact ⟨j + 1, by omega, hc, hne⟩
    rw [first_or_later, changesFrom_cons]
    split
    · subst p
      exact ⟨.inr, fun h => h.resolve_left fun ⟨_, he, hne⟩ => hne he⟩
    · rename_i hp
      rw [List.mem_cons, Prod.mk.injEq]
      constructor
      · rintro (⟨hk, rfl⟩ | h)
        · exact .inl ⟨hk, rfl, Ne.symm hp⟩
        · exact .inr h
      · exact Or.imp_left fun ⟨hk, hc, _⟩ => ⟨hk, hc.symm⟩

/-- The changing elements come in rising order. -/
theorem pairwise_changesFrom (prev : Color) (i : Nat) (ps : List Color) :
    (changesFrom prev i ps).Pairwise fun x y => x.1 < y.1 := by
  induction ps generalizing prev i with
  | nil => exact List.Pairwise.nil
  | cons p ps ih =>
    rw [changesFrom_cons]
    split
    · exact ih prev (i + 1)
    · refine List.pairwise_cons.mpr ⟨fun ⟨k, c⟩ hk => ?_, ih p (i + 1)⟩
      obtain ⟨j, rfl, -⟩ := mem_changesFrom.mp hk
      dsimp only
      omega

/-- A pixel of a row changes colour where it differs from the pixel before, which is white before column 0 (R125). -/
theorem mem_changes {px : List Color} {k : Nat} {c : Color} :
    (k, c) ∈ changes px ↔ px[k]? = some c ∧ (Color.white :: px)[k]? ≠ some c := by
  simp [changes, mem_changesFrom]

theorem lt_length_of_mem_changes {px : List Color} {x : Nat × Color} (h : x ∈ changes px) : x.1 < px.length := by
  obtain ⟨hk, -⟩ := mem_changes.mp h
  exact (List.getElem?_eq_some_iff.mp hk).1

/-- In a list with rising keys, the first entry with a property has the least key. -/
theorem find?_key_le {α : Type} {l : List (Nat × α)} {p : Nat × α → Bool} {x y : Nat × α}
    (hl : l.Pairwise fun a b => a.1 < b.1) (hx : l.find? p = some x) (hy : y ∈ l) (hp : p y = true) : x.1 ≤ y.1 := by
  obtain ⟨-, before, after, rfl, hbefore⟩ := List.find?_eq_some_iff_append.mp hx
  obtain ⟨-, hafter, -⟩ := List.pairwise_append.mp hl
  rcases List.mem_append.mp hy with hy | hy
  · simpa [hp] using hbefore y hy
  · rcases List.mem_cons.mp hy with rfl | hy
    · exact Nat.le_refl _
    · exact Nat.le_of_lt ((List.pairwise_cons.mp hafter).1 y hy)

/-! ## The next changing element (R126) -/

/-- `nextChange` is the end of the row, or a changing element. -/
theorem nextChange_cases (px : List Color) (p : Int) :
    (nextChange px p = px.length ∧ ∀ x ∈ changes px, ¬ p < x.1) ∨
    ∃ c, (nextChange px p, c) ∈ changes px ∧ p < nextChange px p ∧ ∀ x ∈ changes px, p < x.1 → nextChange px p ≤ x.1 := by
  unfold nextChange
  cases hf : (changes px).find? fun x => p < x.1 with
  | none => exact .inl ⟨rfl, fun x hx => by simpa using List.find?_eq_none.mp hf x hx⟩
  | some x =>
    refine .inr ⟨x.2, List.mem_of_find?_eq_some hf, by simpa using List.find?_some hf, fun y hy hp => ?_⟩
    exact find?_key_le (pairwise_changesFrom ..) hf hy (decide_eq_true hp)

theorem nextChange_le_length (px : List Color) (p : Int) : nextChange px p ≤ px.length := by
  rcases nextChange_cases px p with ⟨h, -⟩ | ⟨c, hc, -⟩
  · exact h.le
  · exact (lt_length_of_mem_changes hc).le

theorem lt_nextChange {px : List Color} {p : Int} (h : p < px.length) : p < nextChange px p := by
  rcases nextChange_cases px p with ⟨he, -⟩ | ⟨c, -, hlt, -⟩
  · omega
  · exact hlt

/-- At the end of the row there is no further change. -/
theorem nextChange_length (px : List Color) : nextChange px px.length = px.length := by
  rcases nextChange_cases px px.length with ⟨h, -⟩ | ⟨c, -, hlt, -⟩
  · exact h
  · have := nextChange_le_length px px.length
    omega

/-- Right of a position no pixel before the next change differs from the pixel before it. -/
theorem getElem?_eq_of_lt_nextChange {px : List Color} {p : Int} {k : Nat} (hp : p < k) (hk : k < nextChange px p) :
    px[k]? = (Color.white :: px)[k]? := by
  have hlen : k < px.length := hk.trans_le (nextChange_le_length px p)
  by_contra hne
  have hchange : (k, px[k]) ∈ changes px :=
    mem_changes.mpr ⟨List.getElem?_eq_getElem hlen, fun h => hne ((List.getElem?_eq_getElem hlen).trans h.symm)⟩
  rcases nextChange_cases px p with ⟨-, hnone⟩ | ⟨c, -, -, hleast⟩
  · exact hnone _ hchange hp
  · exact absurd (hleast _ hchange hp) (Nat.not_le.mpr hk)

/-- From `a0` up to the next change the pixels have the colour at `a0`, which left of column 0 is white (R126). Positions are
one higher here, for that pixel. -/
theorem getElem?_cons_of_le_nextChange {px : List Color} {a0 : Int} {c : Color} (h0 : -1 ≤ a0)
    (hc : (Color.white :: px)[(a0 + 1).toNat]? = some c) {k : Nat} (hk : a0 < k) (hle : k ≤ nextChange px a0) :
    (Color.white :: px)[k]? = some c := by
  obtain ⟨j, rfl⟩ : ∃ j, k = (a0 + 1).toNat + j := ⟨k - (a0 + 1).toNat, by omega⟩
  induction j with
  | zero => exact hc
  | succ j ih =>
    rw [← Nat.add_assoc, List.getElem?_cons_succ, getElem?_eq_of_lt_nextChange (p := a0) (by omega) (by omega)]
    exact ih (by omega) (by omega)

theorem getElem?_of_lt_nextChange {px : List Color} {a0 : Int} {c : Color} (h0 : -1 ≤ a0)
    (hc : (Color.white :: px)[(a0 + 1).toNat]? = some c) {k : Nat} (hk : a0 ≤ k) (hlt : k < nextChange px a0) :
    px[k]? = some c :=
  getElem?_cons_of_le_nextChange (k := k + 1) h0 hc (by omega) hlt

/-- The colour flips at the next change (R126). -/
theorem getElem?_nextChange {px : List Color} {a0 : Int} {c : Color} (h0 : -1 ≤ a0)
    (hc : (Color.white :: px)[(a0 + 1).toNat]? = some c) (hlt : nextChange px a0 < px.length) :
    px[nextChange px a0]? = some c.flip := by
  rcases nextChange_cases px a0 with ⟨he, -⟩ | ⟨d, hd, hpos, -⟩
  · omega
  obtain ⟨hpx, hne⟩ := mem_changes.mp hd
  rw [getElem?_cons_of_le_nextChange h0 hc hpos le_rfl] at hne
  rw [hpx]
  cases c <;> cases d <;> simp_all [Color.flip]

/-! ## The reference elements (R128) -/

theorem lt_b1Of {ref : List Color} {a0 : Int} {color : Color} (h : b1Of ref a0 color < ref.length) :
    a0 < b1Of ref a0 color := by
  unfold b1Of at h ⊢
  split
  · rename_i x hx
    have := List.find?_some hx
    simp only [Bool.and_eq_true, decide_eq_true_eq] at this
    exact this.1
  · simp_all

/-- A `b2` inside the row lies right of `a0`. -/
theorem lt_b2Of {ref : List Color} {a0 : Int} {color : Color} (h : b2Of ref a0 color < ref.length) :
    a0 < b2Of ref a0 color := by
  unfold b2Of at h ⊢
  dsimp only at h ⊢
  split at h
  · rename_i hb
    rw [if_pos hb]
    have h1 := lt_b1Of hb
    have h2 := lt_nextChange (px := ref) (p := b1Of ref a0 color) (by omega)
    omega
  · omega

/-! ## Runs and their pixels (R121, R124) -/

/-- The runs of a row are as long as the row. -/
theorem sum_runsFrom (c : Color) (n : Nat) (ps : List Color) : (runsFrom c n ps).sum = n + ps.length := by
  induction ps generalizing c n with
  | nil => simp [runsFrom]
  | cons p ps ih =>
    unfold runsFrom
    split
    · rw [ih, List.length_cons]; omega
    · rw [List.sum_cons, ih, List.length_cons]; omega

/-- A row has at most one run more than it has pixels. -/
theorem length_runsFrom_le (c : Color) (n : Nat) (ps : List Color) : (runsFrom c n ps).length ≤ ps.length + 1 := by
  induction ps generalizing c n with
  | nil => simp [runsFrom]
  | cons p ps ih =>
    unfold runsFrom
    split
    · exact (ih c (n + 1)).trans (by simp)
    · simpa using ih c.flip 1

theorem sum_runsOf (px : List Color) : (runsOf px).sum = px.length := by simp [runsOf, sum_runsFrom]

theorem length_runsOf_le (px : List Color) : (runsOf px).length ≤ px.length + 1 := length_runsFrom_le ..

theorem length_spans (c : Color) (runs : List Nat) : (spans c runs).length = runs.sum := by
  induction runs generalizing c with
  | nil => rfl
  | cons r rs ih => simp [spans, ih]

/-- One run more, in the colour that the number of runs before it gives. -/
theorem spans_append_singleton (c : Color) (runs : List Nat) (r : Nat) :
    spans c (runs ++ [r]) = spans c runs ++ List.replicate r (Color.flip^[runs.length] c) := by
  induction runs generalizing c with
  | nil => simp [spans]
  | cons s rs ih => simp [spans, ih]

/-- Runs of the row's width expand to their pixels (R124). -/
theorem expand_of_sum_eq {runs : List Nat} {w : Nat} (h : runs.sum = w) : expand runs w = spans .white runs := by
  have hlen : (spans .white runs).length = w := (length_spans ..).trans h
  simp [expand, ← hlen]

/-- A row up to `b`, where its pixels from `a` on have one colour. -/
theorem take_eq_append_replicate {px : List Color} {a b : Nat} {c : Color} (hab : a ≤ b) (hb : b ≤ px.length)
    (hc : ∀ k, a ≤ k → k < b → px[k]? = some c) : px.take b = px.take a ++ List.replicate (b - a) c := by
  obtain ⟨n, rfl⟩ := Nat.exists_eq_add_of_le hab
  rw [List.take_add, Nat.add_sub_cancel_left]
  congr 1
  refine List.ext_getElem? fun k => ?_
  rw [List.getElem?_take, List.getElem?_drop, List.getElem?_replicate]
  split
  · exact hc _ (by omega) (by omega)
  · rfl

end Sys2Proof.Machine
end

section
/-! PROOFS. What a code word does to the registers of the row in progress (R45, R46, R211 to R218, R230 to R236). The window and
the bit counters change with each code word, but nothing that a round trip speaks of depends on them: `AtRow` says that a state
is a starting state with some row registers, whatever its stream registers hold. -/

namespace Sys2Proof.Machine

/-- The decoder registers that follow the row in progress (R45, R46). -/
structure RowRegs where
  runs : List Nat
  acc : Nat
  a0 : Int
  color : Color
  hpair : HPair
  codes : Nat

/-- The decoder registers that follow the bit stream (R40, R41, R48). -/
structure StreamRegs where
  win : BitVec 13
  winCount : Nat
  skip : Nat
  bits : Nat

/-- The row registers of a decoder. -/
def Dec.rowRegs (d : Dec) : RowRegs := ⟨d.curRuns, d.runAcc, d.a0, d.color, d.hpair, d.codes⟩

/-- The stream registers of a decoder. -/
def Dec.streamRegs (d : Dec) : StreamRegs := ⟨d.win, d.winCount, d.skip, d.bitsInRow⟩

/-- The decoder with other stream and row registers. -/
def Dec.place (d : Dec) (p : StreamRegs) (r : RowRegs) : Dec :=
  { d with
    win := p.win
    winCount := p.winCount
    skip := p.skip
    bitsInRow := p.bits
    curRuns := r.runs
    runAcc := r.acc
    a0 := r.a0
    color := r.color
    hpair := r.hpair
    codes := r.codes }

/-- A decoder is its own registers in their place. -/
theorem Dec.place_self (d : Dec) : d.place d.streamRegs d.rowRegs = d := rfl

/-- A state that is `s0` but for its stream registers, with row registers `r`. -/
def AtRow (s0 : State) (r : RowRegs) (s : State) : Prop := ∃ p, s = s0.withDec (s0.dec.place p r)

theorem AtRow.self (s : State) : AtRow s s.dec.rowRegs s :=
  ⟨s.dec.streamRegs, by rw [Dec.place_self]; rfl⟩

/-- The context that the row registers give (R91, R204). -/
def RowRegs.context (is2d : Bool) (r : RowRegs) : Context :=
  if is2d && r.hpair == .none then .mode2d else .run r.color

theorem AtRow.context_eq {s0 s : State} {r : RowRegs} (h : AtRow s0 r s) :
    s.dec.context = r.context s0.dec.rowIs2d := by
  obtain ⟨p, rfl⟩ := h
  rfl

/-- The stream registers after a matched code word of `w` bits (R205, R228). -/
def StreamRegs.matched (w : Nat) (p : StreamRegs) : StreamRegs := ⟨p.win >>> 1, p.winCount - 1, w - 1, p.bits + w⟩

theorem matched_place (d : Dec) (p : StreamRegs) (r : RowRegs) (w : Nat) :
    (d.place p r).matched w = d.place (p.matched w) r := rfl

/-- A mode code also counts as a code of the row (R213). -/
theorem matchedMode_place (d : Dec) (p : StreamRegs) (r : RowRegs) (w : Nat) :
    (d.place p r).matchedMode w = d.place (p.matched w) { r with codes := r.codes + 1 } := rfl

/-- A run closed: the colour flips (R214, R230, R231). -/
def RowRegs.close (v : Nat) (r : RowRegs) : RowRegs :=
  { r with runs := r.runs ++ [v], acc := 0, color := r.color.flip }

/-- The end of a code word that may end a `T6` row: the row end check on row registers (R236, R237). -/
def State.rowEnd (s0 : State) (pg : RxPage) (p : StreamRegs) (r : RowRegs) : Res State :=
  andThen ((s0.dec.place p r).t6RowEndCheck pg) fun d => .next (s0.withDec d)

/-- Where no `T6` row ends, the check answers the row registers (R236, R237). -/
theorem rowEnd_eq_next {s0 : State} {pg : RxPage} {r : RowRegs} (p : StreamRegs)
    (h : pg.mode ≠ .t6 ∨ (r.a0 < pg.w ∧ r.codes < maxRowCodes pg.w)) :
    ∃ t, s0.rowEnd pg p r = .next t ∧ AtRow s0 r t := by
  refine ⟨s0.withDec (s0.dec.place p r), ?_, p, rfl⟩
  rw [State.rowEnd, t6RowEndCheck_eq (by exact h), andThen_next]

/-- A run that fits is appended (R215). -/
theorem appendRun_place {cap v : Nat} {d : Dec} {p : StreamRegs} {r : RowRegs} (hroom : r.runs.length < cap - 2)
    (hsum : r.runs.sum + v < Config.runLimit) :
    (d.place p r).appendRun cap v = .next (d.place p { r with runs := r.runs ++ [v] }) := appendRun_eq hroom hsum

/-- A terminating code that fits closes the run; in a 2D row it counts as a code and advances the pair (R230, R231, R235). -/
theorem terminate_place {pg : RxPage} {n : Nat} {d : Dec} {p : StreamRegs} {r : RowRegs}
    (hroom : r.runs.length < pg.runsCap - 2) (hsum : r.runs.sum + (r.acc + n) < Config.runLimit) :
    (d.place p r).terminate n pg =
      if d.rowIs2d then (d.place p { r.close (r.acc + n) with codes := r.codes + 1 }).hpairAdvance pg
      else .next (d.place p (r.close (r.acc + n))) := by
  rw [Dec.terminate, show (d.place p r).runAcc = r.acc from rfl, appendRun_place hroom hsum]
  rfl

theorem hpairAdvance_of_first {pg : RxPage} {d : Dec} (h : d.hpair = .first) :
    d.hpairAdvance pg = .next { d with hpair := .second } := by simp [Dec.hpairAdvance, h]

theorem hpairAdvance_of_second {pg : RxPage} {d : Dec} (h : d.hpair = .second) :
    d.hpairAdvance pg = Dec.t6RowEndCheck pg { d with hpair := .none, a0 := d.curRuns.sum } := by
  simp [Dec.hpairAdvance, h]

/-- A valid Vertical that fits closes the run up to `a1` (R214). -/
theorem vertical_place {pg : RxPage} {off : Int} {a1 : Nat} {d : Dec} {p : StreamRegs} {r : RowRegs}
    (ha1 : (a1 : Int) = b1Of (expand d.refRuns pg.w) r.a0 r.color + off) (hvalid : r.a0 ≤ a1)
    (hroom : r.runs.length < pg.runsCap - 2) (hsum : r.runs.sum + (r.acc + (a1 - r.a0.toNat)) < Config.runLimit) :
    (d.place p r).vertical off pg =
      (d.place p { r.close (r.acc + (a1 - r.a0.toNat)) with a0 := a1 }).t6RowEndCheck pg := by
  have hb1 : ((d.place p r).b1 pg : Int) + off = a1 := ha1.symm
  have hstart : (d.place p r).start = max r.a0 0 := rfl
  have hrun : ((a1 : Int) - max r.a0 0).toNat = a1 - r.a0.toNat := by omega
  rw [vertical_valid (by rw [hb1, hstart]; omega), hb1, hstart, hrun, show (d.place p r).runAcc = r.acc from rfl,
    appendRun_place hroom hsum]
  rfl

/-- A valid Pass extends the open run up to `b2` (R217). -/
theorem pass_place {pg : RxPage} {b2 : Nat} {d : Dec} {p : StreamRegs} {r : RowRegs}
    (hb2 : b2 = b2Of (expand d.refRuns pg.w) r.a0 r.color) (hvalid : r.a0 ≤ b2)
    (hsum : r.runs.sum + r.acc + (b2 - r.a0.toNat) < Config.runLimit) :
    (d.place p r).pass pg =
      (d.place p { r with acc := r.acc + (b2 - r.a0.toNat), a0 := b2 }).t6RowEndCheck pg := by
  have hb2 : (d.place p r).b2 pg = b2 := hb2.symm
  have hstart : (d.place p r).start = max r.a0 0 := rfl
  have hrun : ((b2 : Int) - max r.a0 0).toNat = b2 - r.a0.toNat := by omega
  rw [pass_valid (by rw [hb2, hstart]; omega), hb2, hstart, hrun, addRun_eq (by exact hsum)]
  rfl

section
variable {s0 s : State} {pg : RxPage} {r : RowRegs} {w n : Nat}

/-- The decision on a code word, at row registers. -/
theorem onRow_place (hp : rxPage s0 = .next pg) (p : StreamRegs) (f : RxPage → Dec → Res Dec) :
    onRow (s0.withDec (s0.dec.place p r)) f = andThen (f pg (s0.dec.place p r)) fun d => .next (s0.withDec d) :=
  onRow_eq (s := s0.withDec (s0.dec.place p r)) hp

/-- A make-up code extends the open run (R232 to R234). -/
theorem makeupCode_atRow (hp : rxPage s0 = .next pg) (h : AtRow s0 r s)
    (hsum : r.runs.sum + r.acc + n < Config.runLimit) :
    ∃ t, makeupCode w n s = .next t ∧ AtRow s0 { r with acc := r.acc + n } t := by
  obtain ⟨p, rfl⟩ := h
  refine ⟨_, ?_, p.matched w, rfl⟩
  rw [makeupCode, onRow_place hp, matched_place, addRun_eq (by exact hsum)]
  rfl

/-- A terminating code of a 1D row closes the run (R230, R231). -/
theorem terminatingCode_atRow_of_1d (hp : rxPage s0 = .next pg) (h1d : s0.dec.rowIs2d = false) (h : AtRow s0 r s)
    (hroom : r.runs.length < pg.runsCap - 2) (hsum : r.runs.sum + (r.acc + n) < Config.runLimit) :
    ∃ t, terminatingCode w n s = .next t ∧ AtRow s0 (r.close (r.acc + n)) t := by
  obtain ⟨p, rfl⟩ := h
  refine ⟨_, ?_, p.matched w, rfl⟩
  rw [terminatingCode, onRow_place hp, matched_place, terminate_place hroom hsum, h1d]
  rfl

/-- The first run of a Horizontal pair (R218, R235). -/
theorem terminatingCode_atRow_of_first (hp : rxPage s0 = .next pg) (h2d : s0.dec.rowIs2d = true)
    (hpair : r.hpair = .first) (h : AtRow s0 r s) (hroom : r.runs.length < pg.runsCap - 2)
    (hsum : r.runs.sum + (r.acc + n) < Config.runLimit) :
    ∃ t, terminatingCode w n s = .next t ∧
      AtRow s0 { r.close (r.acc + n) with codes := r.codes + 1, hpair := .second } t := by
  obtain ⟨p, rfl⟩ := h
  refine ⟨_, ?_, p.matched w, rfl⟩
  rw [terminatingCode, onRow_place hp, matched_place, terminate_place hroom hsum, h2d, if_pos rfl,
    hpairAdvance_of_first (by exact hpair)]
  rfl

/-- The second run of a Horizontal pair takes the position to the end of the runs (R218, R235). -/
theorem terminatingCode_atRow_of_second (hp : rxPage s0 = .next pg) (h2d : s0.dec.rowIs2d = true)
    (hpair : r.hpair = .second) (h : AtRow s0 r s) (hroom : r.runs.length < pg.runsCap - 2)
    (hsum : r.runs.sum + (r.acc + n) < Config.runLimit) :
    ∃ p, terminatingCode w n s = s0.rowEnd pg p
      { r.close (r.acc + n) with
        codes := r.codes + 1, hpair := .none, a0 := ((r.runs ++ [r.acc + n]).sum : Nat) } := by
  obtain ⟨p, rfl⟩ := h
  refine ⟨p.matched w, ?_⟩
  rw [terminatingCode, onRow_place hp, matched_place, terminate_place hroom hsum, h2d, if_pos rfl,
    hpairAdvance_of_second (by exact hpair)]
  rfl

/-- A Vertical code to `a1` closes the run up to it (R214, R219 to R225). -/
theorem verticalCode_atRow {off : Int} {a1 : Nat} (hp : rxPage s0 = .next pg) (h : AtRow s0 r s)
    (ha1 : (a1 : Int) = b1Of (expand s0.dec.refRuns pg.w) r.a0 r.color + off) (hvalid : r.a0 ≤ a1)
    (hroom : r.runs.length < pg.runsCap - 2) (hsum : r.runs.sum + (r.acc + (a1 - r.a0.toNat)) < Config.runLimit) :
    ∃ p, verticalCode w off s = s0.rowEnd pg p
      { r.close (r.acc + (a1 - r.a0.toNat)) with a0 := a1, codes := r.codes + 1 } := by
  obtain ⟨p, rfl⟩ := h
  refine ⟨p.matched w, ?_⟩
  rw [verticalCode, onRow_place hp, matchedMode_place,
    vertical_place (r := { r with codes := r.codes + 1 }) ha1 hvalid hroom hsum]
  rfl

/-- A Pass to `b2` extends the open run up to it (R217). -/
theorem execPass_atRow {b2 : Nat} (hp : rxPage s0 = .next pg) (h : AtRow s0 r s)
    (hb2 : b2 = b2Of (expand s0.dec.refRuns pg.w) r.a0 r.color) (hvalid : r.a0 ≤ b2)
    (hsum : r.runs.sum + r.acc + (b2 - r.a0.toNat) < Config.runLimit) :
    ∃ p, execPass s = s0.rowEnd pg p
      { r with acc := r.acc + (b2 - r.a0.toNat), a0 := b2, codes := r.codes + 1 } := by
  obtain ⟨p, rfl⟩ := h
  refine ⟨p.matched 4, ?_⟩
  rw [execPass, onRow_place hp, matchedMode_place, pass_place (r := { r with codes := r.codes + 1 }) hb2 hvalid hsum]
  rfl

/-- Horizontal opens a pair (R218). -/
theorem execHoriz_atRow (hp : rxPage s0 = .next pg) (h : AtRow s0 r s) :
    ∃ t, execHoriz s = .next t ∧ AtRow s0 { r with codes := r.codes + 1, hpair := .first } t := by
  obtain ⟨p, rfl⟩ := h
  refine ⟨_, ?_, p.matched 3, rfl⟩
  rw [execHoriz, onRow_place hp, matchedMode_place]
  rfl

end

end Sys2Proof.Machine
end

section
/-! PROOFS. The code words of a run (R160, R161), and what reading them does: make-up codes extend the open run, so that the
terminating code closes it at its full length. -/

namespace Sys2Proof.Machine

/-! ## Reading code words -/

@[simp] theorem andThen_next_right {α : Type} (r : Res α) : andThen r .next = r := by cases r <;> rfl

theorem readAll_cons {i : Instr} {is : List Instr} {s : State} (h : i ∈ wordsOf s.dec.context) :
    readAll (i :: is) s = andThen (exec i s) (readAll is) := by
  rw [readAll, decide_eq_true h, admitIf_true]

theorem readAll_append (is js : List Instr) (s : State) :
    readAll (is ++ js) s = andThen (readAll is s) (readAll js) := by
  induction is generalizing s with
  | nil => rfl
  | cons i is ih =>
    rw [List.cons_append, readAll, readAll]
    cases decide (i ∈ wordsOf s.dec.context) with
    | false => rfl
    | true =>
      rw [admitIf_true, admitIf_true, andThen_assoc]
      exact congrArg (andThen _) (funext ih)

/-! ## The code words of a run -/

theorem runRows_eq (c : Color) : runRows c = termRows c ++ makeupRows c ++ extMakeupRows := by cases c <;> rfl

/-- The code words of a colour's rows stand in its context (R91). -/
theorem instr_mem_wordsOf_run {c : Color} {row : CodeRow}
    (h : row ∈ termRows c ∨ row ∈ makeupRows c ∨ row ∈ extMakeupRows) : row.instr ∈ wordsOf (.run c) := by
  refine List.mem_map_of_mem ?_
  rw [runRows_eq]
  simpa [or_assoc] using h

theorem exec_makeup_of_mem {c : Color} {row : CodeRow} (h : row ∈ makeupRows c ∨ row ∈ extMakeupRows) (s : State) :
    exec row.instr s = makeupCode row.len row.run s := by
  refine exec_of_mem_makeupRows row ?_ s
  rw [List.mem_append, List.mem_append]
  cases c with
  | white => exact h.imp_left .inl
  | black => exact h.imp_left .inr

/-- A row of a table at an index within it, by the run that the index gives. -/
theorem exists_row_of_run {rows : List CodeRow} {f : Nat → Nat} {n k : Nat}
    (hf : rows.map CodeRow.run = (List.range n).map f) (hk : k < n) :
    ∃ row ∈ rows, instrAt rows k = [row.instr] ∧ row.run = f k := by
  have hlen : k < rows.length := by
    have hn := congrArg List.length hf
    simp only [List.length_map, List.length_range] at hn
    omega
  refine ⟨rows[k], List.getElem_mem hlen, ?_, run_of_getElem? hf (List.getElem?_eq_getElem hlen)⟩
  simp [instrAt, hlen]

/-- `term(color, n)` is the terminating code word of `n` (R160). -/
theorem termCode_eq {c : Color} {n : Nat} (h : n < 64) :
    ∃ row ∈ termRows c, termCode c n = [row.instr] ∧ row.run = n :=
  exists_row_of_run (f := id) (by simpa using map_run_termRows c) h

/-- `makeup(color, m)` is the make-up code word of `m` (R160, R104). -/
theorem makeupOf_eq {c : Color} {j : Nat} (h1 : 1 ≤ j) (h40 : j ≤ 40) :
    ∃ row, (row ∈ makeupRows c ∨ row ∈ extMakeupRows) ∧ makeupOf c (64 * j) = [row.instr] ∧ row.run = 64 * j := by
  unfold makeupOf
  split
  · obtain ⟨row, hmem, hinstr, hrun⟩ := exists_row_of_run (map_run_makeupRows c) (k := 64 * j / 64 - 1) (by omega)
    exact ⟨row, .inl hmem, hinstr, by omega⟩
  · obtain ⟨row, hmem, hinstr, hrun⟩ := exists_row_of_run map_run_extMakeupRows (k := (64 * j - 1792) / 64) (by omega)
    exact ⟨row, .inr hmem, hinstr, by omega⟩

/-- Code words that make up a run of `n`: make-up code words, then a terminating one (R161). -/
def MakesUp (c : Color) (n : Nat) (is : List Instr) : Prop :=
  ∃ (makeups : List CodeRow) (term : CodeRow), (∀ row ∈ makeups, row ∈ makeupRows c ∨ row ∈ extMakeupRows) ∧
    term ∈ termRows c ∧ is = makeups.map CodeRow.instr ++ [term.instr] ∧
    (makeups.map CodeRow.run).sum + term.run = n

theorem MakesUp.cons {c : Color} {n : Nat} {row : CodeRow} {is : List Instr}
    (hrow : row ∈ makeupRows c ∨ row ∈ extMakeupRows) (h : MakesUp c n is) :
    MakesUp c (row.run + n) (row.instr :: is) := by
  obtain ⟨makeups, term, hmakeups, hterm, rfl, rfl⟩ := h
  exact ⟨row :: makeups, term, List.forall_mem_cons.mpr ⟨hrow, hmakeups⟩, hterm, rfl, by simp [Nat.add_assoc]⟩

/-- The loop of `emit_run` makes up its run, where its bound suffices (R160, log 24). -/
theorem runCodesLoop_makesUp {c : Color} (fuel : Nat) {n : Nat} (h : n / 2560 + 2 ≤ fuel ∨ (n < 64 ∧ 1 ≤ fuel)) :
    MakesUp c n (runCodesLoop fuel c n) := by
  induction fuel generalizing n with
  | zero => omega
  | succ fuel ih =>
    unfold runCodesLoop
    split
    · rename_i hn
      simp only [Config.makeupStep, Config.makeupMax] at hn ⊢
      have hm : min 2560 (64 * (n / 64)) = 64 * min 40 (n / 64) := by omega
      obtain ⟨row, hmem, hinstr, hrun⟩ := makeupOf_eq (c := c) (j := min 40 (n / 64)) (by omega) (by omega)
      have hrest := (ih (n := n - 64 * min 40 (n / 64)) (by omega)).cons hmem
      rw [hm, hinstr]
      rwa [hrun, Nat.add_sub_cancel' (by omega)] at hrest
    · rename_i hn
      simp only [Config.makeupStep] at hn
      obtain ⟨row, hmem, hinstr, hrun⟩ := termCode_eq (c := c) (n := n) (by omega)
      exact ⟨[], row, by simp, hmem, hinstr, by simpa using hrun⟩

theorem runCodes_makesUp (c : Color) (n : Nat) : MakesUp c n (runCodes c n) :=
  runCodesLoop_makesUp _ (.inl (by simp [Config.makeupMax]))

/-! ## Reading a run -/

section
variable {s0 s : State} {pg : RxPage} {r : RowRegs} {n : Nat}

/-- Make-up code words extend the open run by what they make up (R232 to R234). -/
theorem readAll_makeups (hp : rxPage s0 = .next pg) {makeups : List CodeRow} (hctx : r.context s0.dec.rowIs2d = .run r.color)
    (hrows : ∀ row ∈ makeups, row ∈ makeupRows r.color ∨ row ∈ extMakeupRows)
    (hsum : r.runs.sum + r.acc + (makeups.map CodeRow.run).sum < Config.runLimit) (h : AtRow s0 r s) :
    ∃ t, readAll (makeups.map CodeRow.instr) s = .next t ∧
      AtRow s0 { r with acc := r.acc + (makeups.map CodeRow.run).sum } t := by
  induction makeups generalizing r s with
  | nil => exact ⟨s, rfl, h⟩
  | cons row makeups ih =>
    obtain ⟨hrow, hrows⟩ := List.forall_mem_cons.mp hrows
    rw [List.map_cons, List.sum_cons] at hsum
    obtain ⟨u, hu, hatu⟩ := makeupCode_atRow (w := row.len) (n := row.run) hp h (by omega)
    obtain ⟨t, ht, hatt⟩ := ih (r := { r with acc := r.acc + row.run }) hctx hrows (by dsimp only; omega) hatu
    refine ⟨t, ?_, by simpa [Nat.add_assoc] using hatt⟩
    rw [List.map_cons, readAll_cons (by rw [h.context_eq, hctx]; exact instr_mem_wordsOf_run (.inr hrow)),
      exec_makeup_of_mem hrow, hu, andThen_next, ht]

/-- The code words of a run are read as one terminating code that closes the whole run (R160, R228). -/
theorem readAll_runCodes (hp : rxPage s0 = .next pg) (hctx : r.context s0.dec.rowIs2d = .run r.color)
    (hsum : r.runs.sum + r.acc + n < Config.runLimit) (h : AtRow s0 r s) :
    ∃ w k t, k ≤ n ∧ readAll (runCodes r.color n) s = terminatingCode w k t ∧
      AtRow s0 { r with acc := r.acc + (n - k) } t := by
  obtain ⟨makeups, term, hrows, hterm, hcodes, rfl⟩ := runCodes_makesUp r.color n
  obtain ⟨t, ht, hat⟩ := readAll_makeups hp hctx hrows (by omega) h
  refine ⟨term.len, term.run, t, by omega, ?_, by rwa [Nat.add_sub_cancel]⟩
  have hmem : term.instr ∈ wordsOf t.dec.context := by
    rw [hat.context_eq]
    exact hctx ▸ instr_mem_wordsOf_run (.inl hterm)
  rw [hcodes, readAll_append, ht, andThen_next, readAll_cons hmem, exec_of_mem_termRows _ _ hterm]
  exact andThen_next_right _

end

end Sys2Proof.Machine
end

section
/-! PROOFS. A row coded in one dimension decodes to itself (R162, R230 to R234). -/

namespace Sys2Proof.Machine

section
variable {s0 s : State} {pg : RxPage} {r : RowRegs} {n : Nat}

/-- The code words of a run close it, in a 1D row (R160, R230, R231). -/
theorem readAll_runCodes_of_1d (hp : rxPage s0 = .next pg) (h1d : s0.dec.rowIs2d = false)
    (hroom : r.runs.length < pg.runsCap - 2) (hsum : r.runs.sum + r.acc + n < Config.runLimit) (h : AtRow s0 r s) :
    ∃ t, readAll (runCodes r.color n) s = .next t ∧ AtRow s0 (r.close (r.acc + n)) t := by
  have hctx : r.context s0.dec.rowIs2d = .run r.color := by rw [h1d]; rfl
  obtain ⟨w, k, u, hk, hread, hat⟩ := readAll_runCodes hp hctx hsum h
  obtain ⟨t, ht, hat⟩ := terminatingCode_atRow_of_1d (w := w) (n := k) hp h1d hat hroom (by dsimp only; omega)
  refine ⟨t, hread.trans ht, ?_⟩
  rwa [Nat.add_assoc, Nat.sub_add_cancel hk] at hat

/-- The code words of runs append them, in a 1D row (R162). -/
theorem readAll_codes1dFrom (hp : rxPage s0 = .next pg) (h1d : s0.dec.rowIs2d = false) {runs : List Nat}
    (hacc : r.acc = 0) (hroom : r.runs.length + runs.length ≤ pg.runsCap - 2)
    (hsum : r.runs.sum + runs.sum < Config.runLimit) (h : AtRow s0 r s) :
    ∃ t color, readAll (codes1dFrom r.color runs) s = .next t ∧
      AtRow s0 { r with runs := r.runs ++ runs, color := color } t := by
  induction runs generalizing r s with
  | nil => exact ⟨s, r.color, rfl, by simpa using h⟩
  | cons n runs ih =>
    rw [List.length_cons] at hroom
    rw [List.sum_cons] at hsum
    obtain ⟨u, hu, hatu⟩ := readAll_runCodes_of_1d (n := n) hp h1d (by omega) (by omega) h
    rw [hacc, Nat.zero_add] at hatu
    have hclose : (r.close n).runs = r.runs ++ [n] := rfl
    obtain ⟨t, color, ht, hatt⟩ := ih (r := r.close n) rfl
      (by rw [hclose, List.length_append, List.length_singleton]; omega)
      (by rw [hclose, List.sum_append, List.sum_singleton]; omega) hatu
    refine ⟨t, color, ?_, ?_⟩
    · rw [codes1dFrom, readAll_append, hu, andThen_next]
      exact ht
    · rw [hclose, List.append_assoc] at hatt
      simpa [RowRegs.close, hacc] using hatt

end

/-- Settles O59, by induction on the runs: each run's code words append it. -/
theorem oneDimensionalRoundTrip : Obligations.OneDimensionalRoundTrip := by
  intro s m w px ⟨hlife, hmode, hwidth⟩ hmargin hlen hw h1d hruns hacc hcolor
  have hp : rxPage s = .next (rxPageOf s m w) := rxPage_eq hlife hmode hwidth
  have hcap : (rxPageOf s m w).runsCap = w.toNat + s.par.runMargin := rfl
  have hcount := length_runsOf_le px
  have hread := readAll_codes1dFrom (r := s.dec.rowRegs) (runs := runsOf px) hp h1d hacc
    (by rw [hcap]; simp only [Dec.rowRegs, hruns, List.length_nil]; omega)
    (by simp only [Dec.rowRegs, hruns, List.sum_nil, sum_runsOf, Config.runLimit]; omega) (.self s)
  rw [show s.dec.rowRegs.color = .white from hcolor] at hread
  obtain ⟨t, color, ht, p, rfl⟩ := hread
  refine ⟨_, ht, ?_, hacc, rfl, rfl, rfl⟩
  show s.dec.curRuns ++ runsOf px = runsOf px
  rw [hruns, List.nil_append]

end Sys2Proof.Machine
end

section
/-! PROOFS. A row coded in two dimensions decodes to itself (R163 to R167, R213 to R225, R235 to R237). Encoder and decoder hold
the same `a0` and the same colour between two modes, and the decoder's runs are the pixels left of `a0`. -/

namespace Sys2Proof.Machine

/-! ## The row read so far -/

/-- The runs and the open run are the pixels of `px` left of `a0`, and `color` is the colour at `a0`; left of column 0 stands a
white pixel (R125). -/
structure RowPixels (px : List Color) (runs : List Nat) (acc : Nat) (a0 : Int) (color : Color) : Prop where
  a0_ge : -1 ≤ a0
  a0_le : a0 ≤ px.length
  here : a0 < px.length → (Color.white :: px)[(a0 + 1).toNat]? = some color
  flips : color = Color.flip^[runs.length] .white
  pixels : spans .white runs ++ List.replicate acc color = px.take a0.toNat

namespace RowPixels
variable {px : List Color} {runs : List Nat} {acc : Nat} {a0 : Int} {color : Color}

/-- The start of a row (R211). -/
theorem start (px : List Color) : RowPixels px [] 0 (-1) .white where
  a0_ge := le_rfl
  a0_le := by omega
  here _ := rfl
  flips := rfl
  pixels := rfl

/-- The runs end at `a0`. -/
theorem total (h : RowPixels px runs acc a0 color) : runs.sum + acc = a0.toNat := by
  have hlen := congrArg List.length h.pixels
  have hle := h.a0_le
  rw [List.length_append, length_spans, List.length_replicate, List.length_take] at hlen
  omega

/-- The open run may grow up to the next change. -/
theorem pixels_to (h : RowPixels px runs acc a0 color) {b : Nat} (hab : a0 ≤ b) (hb : b ≤ nextChange px a0) :
    spans .white runs ++ List.replicate (acc + (b - a0.toNat)) color = px.take b := by
  have hlen := nextChange_le_length px a0
  have hpixels : ∀ k, a0.toNat ≤ k → k < b → px[k]? = some color := fun k hk hkb =>
    getElem?_of_lt_nextChange h.a0_ge (h.here (by omega)) (by omega) (by omega)
  rw [take_eq_append_replicate (by omega) (by omega) hpixels, ← h.pixels, List.append_assoc,
    List.replicate_append_replicate]

/-- A Pass to a position before the next change. -/
theorem extend (h : RowPixels px runs acc a0 color) {b : Nat} (hab : a0 ≤ b) (hb : b < nextChange px a0) :
    RowPixels px runs (acc + (b - a0.toNat)) b color where
  a0_ge := by omega
  a0_le := by have := nextChange_le_length px a0; omega
  here _ := by
    have hlen := nextChange_le_length px a0
    exact getElem?_of_lt_nextChange h.a0_ge (h.here (by omega)) hab hb
  flips := h.flips
  pixels := h.pixels_to hab hb.le

/-- A run closed at the next change. -/
theorem close (h : RowPixels px runs acc a0 color) :
    RowPixels px (runs ++ [acc + (nextChange px a0 - a0.toNat)]) 0 (nextChange px a0) color.flip := by
  have hge : a0 ≤ nextChange px a0 := by
    rcases h.a0_le.lt_or_eq with hlt | rfl
    · exact (lt_nextChange hlt).le
    · rw [nextChange_length]
  refine ⟨by omega, by exact_mod_cast nextChange_le_length px a0, fun hlt => ?_, ?_, ?_⟩
  · exact getElem?_nextChange h.a0_ge (h.here (by omega)) (by exact_mod_cast hlt)
  · rw [List.length_append, List.length_singleton, Function.iterate_succ_apply', ← h.flips]
  · rw [spans_append_singleton, ← h.flips, List.replicate_zero, List.append_nil]
    exact h.pixels_to hge le_rfl

/-- A whole row, closed. -/
theorem expand_eq (h : RowPixels px runs 0 px.length color) : runs.sum = px.length ∧ expand runs px.length = px := by
  have hsum : runs.sum = px.length := by simpa using h.total
  refine ⟨hsum, ?_⟩
  rw [expand_of_sum_eq hsum]
  simpa using h.pixels

end RowPixels

/-- What holds of the row registers between two modes of a row `px`: the pixels so far, no pair, and no more runs and codes than
the position leaves room for (R216, R237). -/
structure RowInv (pg : RxPage) (px : List Color) (r : RowRegs) : Prop where
  row : RowPixels px r.runs r.acc r.a0 r.color
  pair : r.hpair = .none
  closed : r.a0 = px.length → r.acc = 0
  runsLen : r.a0 < px.length → r.runs.length ≤ r.a0 + 1
  codes : pg.mode = .t6 → r.a0 < px.length → r.codes ≤ 2 * (r.a0 + 1)

theorem flip_flip (c : Color) : c.flip.flip = c := by cases c <;> rfl

namespace RowInv
variable {pg : RxPage} {px : List Color} {r : RowRegs}

/-- The row registers after a Vertical code to the next change (R214). -/
theorem vertical (h : RowInv pg px r) (hlt : r.a0 < px.length) :
    RowInv pg px
      { r.close (r.acc + (nextChange px r.a0 - r.a0.toNat)) with a0 := nextChange px r.a0, codes := r.codes + 1 } where
  row := h.row.close
  pair := h.pair
  closed _ := rfl
  runsLen _ := by
    have hruns := h.runsLen hlt
    have hnext := lt_nextChange hlt
    simp only [RowRegs.close, List.length_append, List.length_singleton]
    omega
  codes hmode _ := by
    have hcodes := h.codes hmode hlt
    have hnext := lt_nextChange hlt
    dsimp only
    omega

/-- The row registers after a Pass to a position before the next change (R217). -/
theorem pass (h : RowInv pg px r) {b2 : Nat} (hlt : r.a0 < b2) (hb2 : b2 < nextChange px r.a0) :
    RowInv pg px { r with acc := r.acc + (b2 - r.a0.toNat), a0 := b2, codes := r.codes + 1 } := by
  have hlen := nextChange_le_length px r.a0
  refine ⟨h.row.extend hlt.le hb2, h.pair, fun he => ?_, fun _ => ?_, fun hmode _ => ?_⟩
  · dsimp only at he
    omega
  · have hruns := h.runsLen (by omega)
    dsimp only
    omega
  · have hcodes := h.codes hmode (by omega)
    dsimp only
    omega

/-- The row registers after a Horizontal pair to the two next changes (R218, R235). -/
theorem horizontal (h : RowInv pg px r) (hlt : r.a0 < px.length) {a1 a2 : Nat} (ha1 : a1 = nextChange px r.a0)
    (ha2 : a2 = nextChange px a1) :
    RowInv pg px ⟨r.runs ++ [r.acc + (a1 - r.a0.toNat)] ++ [a2 - a1], 0, a2, r.color, .none, r.codes + 3⟩ := by
  have hrow := h.row.close.close
  rw [flip_flip, Int.toNat_natCast, Nat.zero_add, ← ha1, ← ha2] at hrow
  have h1 : r.a0 < a1 := ha1 ▸ lt_nextChange hlt
  have h2 : a2 < px.length → a1 < a2 := fun hlt2 => by
    have hle := nextChange_le_length px r.a0
    rcases (ha1 ▸ hle : a1 ≤ px.length).lt_or_eq with hlt1 | he
    · exact_mod_cast ha2 ▸ lt_nextChange (p := (a1 : Int)) (by exact_mod_cast hlt1)
    · rw [he, nextChange_length] at ha2
      omega
  refine ⟨hrow, rfl, fun _ => rfl, fun hlt2 => ?_, fun hmode hlt2 => ?_⟩
  · have hruns := h.runsLen hlt
    have := h2 (Int.ofNat_lt.mp hlt2)
    simp only [List.length_append, List.length_singleton]
    omega
  · have hcodes := h.codes hmode hlt
    have := h2 (Int.ofNat_lt.mp hlt2)
    dsimp only
    omega

/-- At the end of the row the runs are the row (R124). -/
theorem whole (h : RowInv pg px r) (hend : r.a0 = px.length) :
    r.acc = 0 ∧ r.runs.sum = px.length ∧ expand r.runs px.length = px := by
  have hrow := h.row
  rw [h.closed hend, hend] at hrow
  exact ⟨h.closed hend, hrow.expand_eq⟩

/-- The RunArray has room for two more runs (R216). -/
theorem room (h : RowInv pg px r) (hlt : r.a0 < px.length) (hcap : px.length + 4 ≤ pg.runsCap) :
    r.runs.length + 1 < pg.runsCap - 2 := by
  have hruns := h.runsLen hlt
  omega

end RowInv

/-! ## The encoder's modes (R163 to R167) -/

section
variable {fuel : Nat} {cur ref : List Color} {a0 : Int} {color : Color}

theorem codes2dLoop_end (h : (cur.length : Int) ≤ a0) : codes2dLoop fuel cur ref a0 color = [] := by
  cases fuel with
  | zero => rfl
  | succ fuel => exact if_neg (Int.not_lt.mpr h)

theorem codes2dLoop_pass (h : a0 < cur.length) (hb2 : b2Of ref a0 color < nextChange cur a0) :
    codes2dLoop (fuel + 1) cur ref a0 color = .pass :: codes2dLoop fuel cur ref (b2Of ref a0 color) color :=
  (if_pos h).trans (if_pos hb2)

theorem codes2dLoop_vertical (h : a0 < cur.length) (hb2 : ¬ b2Of ref a0 color < nextChange cur a0) {off : Int}
    (hoff : off = nextChange cur a0 - b1Of ref a0 color) (hnear : off.natAbs ≤ 3) :
    codes2dLoop (fuel + 1) cur ref a0 color = verticalOf off :: codes2dLoop fuel cur ref (nextChange cur a0) color.flip := by
  subst hoff
  exact (if_pos h).trans ((if_neg hb2).trans (if_pos hnear))

theorem codes2dLoop_horizontal (h : a0 < cur.length) (hb2 : ¬ b2Of ref a0 color < nextChange cur a0)
    (hfar : ¬ ((nextChange cur a0 : Int) - b1Of ref a0 color).natAbs ≤ 3) {a1 a2 : Nat} (ha1 : a1 = nextChange cur a0)
    (ha2 : a2 = nextChange cur a1) :
    codes2dLoop (fuel + 1) cur ref a0 color =
      (.horiz :: runCodes color (a1 - a0.toNat) ++ runCodes color.flip (a2 - a1)) ++ codes2dLoop fuel cur ref a2 color := by
  subst ha1 ha2
  have hstart : (max a0 0).toNat = a0.toNat := by omega
  rw [← hstart]
  exact (if_pos h).trans ((if_neg hb2).trans (if_neg hfar))

end

/-- The Vertical code word of an offset of at most 3 either way (R105, R165). -/
theorem verticalOf_mem {off : Int} (h : off.natAbs ≤ 3) : (verticalOf off, off) ∈ verticalRows := by
  have hoff : off = 0 ∨ off = 1 ∨ off = 2 ∨ off = 3 ∨ off = -1 ∨ off = -2 ∨ off = -3 := by omega
  rcases hoff with rfl | rfl | rfl | rfl | rfl | rfl | rfl <;> simp [verticalOf, verticalRows]

theorem instr_mem_wordsOf_mode2d : ∀ x ∈ verticalRows, x.1 ∈ wordsOf .mode2d := by decide

/-! ## Reading the row -/

section
variable {s0 s : State} {pg : RxPage} {r : RowRegs} {px : List Color}

/-- Between two modes of a 2D row the mode table is read (R91, R204). -/
theorem AtRow.context_eq_mode2d (h : AtRow s0 r s) (h2d : s0.dec.rowIs2d = true) (hpair : r.hpair = .none) :
    s.dec.context = .mode2d := by
  rw [h.context_eq, RowRegs.context, h2d, hpair]
  rfl

/-- A Horizontal code and the code words of its two runs (R218, R235). -/
theorem readAll_pair {n1 n2 : Nat} (hp : rxPage s0 = .next pg) (h2d : s0.dec.rowIs2d = true) (hpair : r.hpair = .none)
    (hroom : r.runs.length + 1 < pg.runsCap - 2) (hsum : r.runs.sum + r.acc + n1 + n2 < Config.runLimit)
    (h : AtRow s0 r s) :
    ∃ p, readAll (.horiz :: runCodes r.color n1 ++ runCodes r.color.flip n2) s = s0.rowEnd pg p
      ⟨r.runs ++ [r.acc + n1] ++ [n2], 0, ((r.runs ++ [r.acc + n1] ++ [n2]).sum : Nat), r.color, .none, r.codes + 3⟩ := by
  have hhoriz : Instr.horiz ∈ wordsOf s.dec.context := by rw [h.context_eq_mode2d h2d hpair]; decide
  have hctx (r' : RowRegs) (hr' : r'.hpair ≠ .none) : r'.context s0.dec.rowIs2d = .run r'.color := by
    rw [RowRegs.context, if_neg (by simpa using fun _ => hr')]
  obtain ⟨t0, ht0, hat0⟩ := execHoriz_atRow hp h
  obtain ⟨w1, k1, u1, hk1, hread1, hu1⟩ := readAll_runCodes (n := n1) hp (hctx _ (by simp)) (by dsimp only; omega) hat0
  obtain ⟨t1, ht1, hat1⟩ := terminatingCode_atRow_of_first (w := w1) (n := k1) hp h2d rfl hu1 (by dsimp only; omega)
    (by dsimp only; omega)
  dsimp only at hread1 hat1
  rw [Nat.add_assoc, Nat.sub_add_cancel hk1] at hat1
  have hsum1 : (r.runs ++ [r.acc + n1]).sum + 0 + n2 < Config.runLimit := by
    rw [List.sum_append, List.sum_singleton]; omega
  obtain ⟨w2, k2, u2, hk2, hread2, hu2⟩ := readAll_runCodes (n := n2) hp (hctx _ (by simp)) hsum1 hat1
  obtain ⟨p, hp2⟩ := terminatingCode_atRow_of_second (w := w2) (n := k2) hp h2d rfl hu2
    (by simp only [RowRegs.close, List.length_append, List.length_singleton]; omega)
    (by simp only [RowRegs.close] at hsum1 ⊢; omega)
  refine ⟨p, ?_⟩
  have hrun2 : 0 + (n2 - k2) + k2 = n2 := by omega
  simp only [RowRegs.close, flip_flip, hrun2] at hread2 hp2
  rw [List.cons_append, readAll_cons hhoriz, show exec .horiz s = execHoriz s from rfl, ht0, andThen_next, readAll_append,
    hread1, ht1, andThen_next, hread2, hp2]

/-- An answer that is the row end check on the registers of a whole row. -/
def WholeRow (s0 : State) (pg : RxPage) (px : List Color) (x : Res State) : Prop :=
  ∃ p r, x = s0.rowEnd pg p r ∧ RowInv pg px r ∧ r.a0 = px.length

/-- A mode that ends inside the row goes on with the rest of the row; one that ends at its end leaves no code words. -/
theorem wholeRow_of_rowEnd {fuel : Nat} {ref : List Color} {p : StreamRegs} (hw : pg.w = px.length) (h : RowInv pg px r)
    (hrest : r.a0 < px.length → ∀ t, AtRow s0 r t → WholeRow s0 pg px (readAll (codes2dLoop fuel px ref r.a0 r.color) t)) :
    WholeRow s0 pg px (andThen (s0.rowEnd pg p r) (readAll (codes2dLoop fuel px ref r.a0 r.color))) := by
  rcases h.row.a0_le.lt_or_eq with hlt | he
  · have hmid : pg.mode ≠ .t6 ∨ (r.a0 < pg.w ∧ r.codes < maxRowCodes pg.w) := by
      by_cases hmode : pg.mode = .t6
      · have hcodes := h.codes hmode hlt
        exact .inr ⟨hw ▸ hlt, by rw [maxRowCodes, hw]; omega⟩
      · exact .inl hmode
    obtain ⟨t, ht, hat⟩ := rowEnd_eq_next p hmid
    rw [ht, andThen_next]
    exact hrest hlt t hat
  · rw [codes2dLoop_end he.ge]
    exact ⟨p, r, andThen_next_right _, h, he⟩

/-- The code words of the rest of a row, from a position between two modes (R163). -/
theorem readAll_codes2dLoop (hp : rxPage s0 = .next pg) (hw : pg.w = px.length) (hcap : px.length + 4 ≤ pg.runsCap)
    (hlim : px.length < Config.runLimit) (h2d : s0.dec.rowIs2d = true) (fuel : Nat) (h : RowInv pg px r)
    (hlt : r.a0 < px.length) (hfuel : px.length ≤ r.a0 + fuel) (hat : AtRow s0 r s) :
    WholeRow s0 pg px (readAll (codes2dLoop fuel px (expand s0.dec.refRuns pg.w) r.a0 r.color) s) := by
  induction fuel generalizing r s with
  | zero => omega
  | succ fuel ih =>
    have hctx := hat.context_eq_mode2d h2d h.pair
    have hnext := lt_nextChange hlt
    have hlen := nextChange_le_length px r.a0
    have htotal := h.row.total
    have hroom := h.room hlt hcap
    have hreflen : (expand s0.dec.refRuns pg.w).length = px.length := (expand_length ..).trans hw
    by_cases hb2 : b2Of (expand s0.dec.refRuns pg.w) r.a0 r.color < nextChange px r.a0
    · have hright := lt_b2Of (ref := expand s0.dec.refRuns pg.w) (a0 := r.a0) (color := r.color) (by omega)
      obtain ⟨p, hpass⟩ := execPass_atRow hp hat rfl hright.le (by omega)
      rw [codes2dLoop_pass hlt hb2, readAll_cons (by rw [hctx]; decide), show exec .pass s = execPass s from rfl, hpass]
      exact wholeRow_of_rowEnd hw (h.pass hright hb2) fun hlt' t ht =>
        ih (h.pass hright hb2) hlt' (by dsimp only; omega) ht
    · by_cases hnear : ((nextChange px r.a0 : Int) - b1Of (expand s0.dec.refRuns pg.w) r.a0 r.color).natAbs ≤ 3
      · have hmem := verticalOf_mem hnear
        rw [codes2dLoop_vertical hlt hb2 rfl hnear, readAll_cons (by rw [hctx]; exact instr_mem_wordsOf_mode2d _ hmem),
          exec_verticalRow _ hmem]
        obtain ⟨p, hvertical⟩ := verticalCode_atRow (w := (codeBits (verticalOf _)).length) hp hat
          (add_sub_cancel ..).symm hnext.le (by omega) (by omega)
        rw [hvertical]
        exact wholeRow_of_rowEnd hw (h.vertical hlt) fun hlt' t ht => ih (h.vertical hlt) hlt' (by dsimp only; omega) ht
      · obtain ⟨a1, ha1⟩ : ∃ a1, a1 = nextChange px r.a0 := ⟨_, rfl⟩
        obtain ⟨a2, ha2⟩ : ∃ a2, a2 = nextChange px a1 := ⟨_, rfl⟩
        have hinv := h.horizontal hlt ha1 ha2
        have hsum : (r.runs ++ [r.acc + (a1 - r.a0.toNat)] ++ [a2 - a1]).sum = a2 := by simpa using hinv.row.total
        have hlen2 := nextChange_le_length px a1
        have hsplit : r.runs.sum + (r.acc + (a1 - r.a0.toNat)) + (a2 - a1) = a2 := by
          simpa [Nat.add_assoc] using hsum
        obtain ⟨p, hpair⟩ := readAll_pair (n1 := a1 - r.a0.toNat) (n2 := a2 - a1) hp h2d h.pair hroom (by omega) hat
        rw [hsum] at hpair
        rw [codes2dLoop_horizontal hlt hb2 hnear ha1 ha2, readAll_append, hpair]
        exact wholeRow_of_rowEnd hw hinv fun hlt' t ht => ih hinv hlt' (by dsimp only; omega) ht

end

end Sys2Proof.Machine
end

section
/-! PROOFS. The end of a row read in two dimensions: in `T4_2D` it waits for its EOL, in `T6` its last code word commits it
(R236, R237, R260 to R262, R271, R274). -/

namespace Sys2Proof.Machine

/-- A good row is stored as it is, where `IMG` has room and no run is open (R260, R262). -/
theorem commitRow_of_good {pg : RxPage} {d : Dec} (hroom : d.rows ≠ d.imgCapRows) (hacc : d.runAcc = 0)
    (hgood : d.rowGood pg = true) (hfit : d.rows + 1 < Config.wordLimit) :
    d.commitRow pg = .next (d.storeRow pg (pack (expand d.curRuns pg.w))) := by
  have hgrow : d.growImage pg = (true, d) := if_neg hroom
  have hclose : d.closeRow pg = .next d := if_neg (by omega)
  have hdata : d.rowData pg = .next (pack (expand d.curRuns pg.w)) := if_pos hgood
  have hcounter : counterFits d.rows = true := decide_eq_true hfit
  rw [Dec.commitRow, hgrow]
  dsimp only
  rw [hclose, andThen_next, hdata, andThen_next, if_pos hcounter]

/-- A good row leaves its own runs as the reference (R270). -/
theorem rowRuns_of_good {pg : RxPage} {d : Dec} (hgood : d.rowGood pg = true) : d.rowRuns pg = d.curRuns := if_pos hgood

/-- A good row is no bad row (R271). -/
theorem badRows_countRow_of_good (p : PageStats) : (p.countRow true).badRows = p.badRows := by
  unfold PageStats.countRow
  rw [if_pos rfl]
  split <;> rfl

/-- A `T6` row that has reached its width is committed (R236). -/
theorem t6RowEndCheck_of_width {pg : RxPage} {d : Dec} (hmode : pg.mode = .t6) (hwidth : pg.w ≤ d.a0) :
    d.t6RowEndCheck pg = andThen (d.commitRow pg) fun d => .next { d with eolCount := 0 } :=
  if_pos ⟨hmode, .inl hwidth⟩

/-- The decoder after a good `T6` row has ended (R236, R260). -/
theorem t6RowEndCheck_of_good {pg : RxPage} {d : Dec} (hmode : pg.mode = .t6) (hwidth : pg.w ≤ d.a0)
    (hroom : d.rows ≠ d.imgCapRows) (hacc : d.runAcc = 0) (hgood : d.rowGood pg = true)
    (hfit : d.rows + 1 < Config.wordLimit) :
    d.t6RowEndCheck pg =
      .next { d.storeRow pg (pack (expand d.curRuns pg.w)) with eolCount := 0 } := by
  rw [t6RowEndCheck_of_width hmode hwidth, commitRow_of_good hroom hacc hgood hfit, andThen_next]

/-- The statements' start of a 2D row, as row registers (R211). -/
theorem rowInv_start {pg : RxPage} {px : List Color} {d : Dec} (hruns : d.curRuns = []) (hacc : d.runAcc = 0)
    (ha0 : d.a0 = -1) (hcolor : d.color = .white) (hpair : d.hpair = .none) (hcodes : pg.mode = .t6 → d.codes = 0) :
    RowInv pg px d.rowRegs where
  row := by
    simp only [Dec.rowRegs, hruns, hacc, ha0, hcolor]
    exact .start px
  pair := hpair
  closed _ := hacc
  runsLen _ := by simp [Dec.rowRegs, hruns, ha0]
  codes hmode _ := by simp [Dec.rowRegs, hcodes hmode, ha0]

/-- Settles O60: the code words of the row end in the row end check on the registers of the whole row. -/
theorem twoDimensionalRoundTrip : Obligations.TwoDimensionalRoundTrip := by
  intro s m w px ⟨hlife, hmode, hwidth⟩ hmargin hlen hw h2d hruns hacc ha0 hcolor hpair
  have hp : rxPage s = .next (rxPageOf s m w) := rxPage_eq hlife hmode hwidth
  have hcap : px.length + 4 ≤ (rxPageOf s m w).runsCap := by rw [hlen]; exact Nat.add_le_add_left hmargin _
  have hread (hcodes : m = .t6 → s.dec.codes = 0) :
      WholeRow s (rxPageOf s m w) px (readAll (codes2d px (expand s.dec.refRuns w.toNat)) s) := by
    have hstart := rowInv_start (pg := rxPageOf s m w) (px := px) hruns hacc ha0 hcolor hpair hcodes
    have hstart0 : s.dec.rowRegs.a0 = -1 := ha0
    have hread := readAll_codes2dLoop hp hlen.symm hcap (hlen ▸ hw) h2d (px.length + 1) hstart (by omega) (by omega) (.self s)
    rwa [hstart0, show s.dec.rowRegs.color = .white from hcolor] at hread
  refine ⟨fun hm => ?_, fun hm _ hcodes hoverflow hrows hfit => ?_⟩
  · obtain ⟨p, r, hx, hinv, hend⟩ := hread (by rw [hm]; exact nofun)
    obtain ⟨t, ht, q, rfl⟩ := rowEnd_eq_next (s0 := s) (pg := rxPageOf s m w) (r := r) p (.inl (by rw [hm]; exact nofun))
    obtain ⟨hclosed, hsum, hexpand⟩ := hinv.whole hend
    rw [hlen] at hsum hexpand
    exact ⟨_, hx.trans ht, hsum, hexpand, hclosed, rfl, hinv.pair, rfl, rfl⟩
  · obtain ⟨p, r, hx, hinv, hend⟩ := hread fun _ => hcodes
    obtain ⟨hclosed, hsum, hexpand⟩ := hinv.whole hend
    rw [hlen] at hsum hexpand
    have hgood : (s.dec.place p r).rowGood (rxPageOf s m w) = true := by
      simp [Dec.rowGood, Dec.place, hoverflow, hsum, rxPageOf]
    have hdone := t6RowEndCheck_of_good (d := s.dec.place p r) (pg := rxPageOf s m w) hm
      (by show (w.toNat : Int) ≤ r.a0; omega) hrows.ne hclosed hgood hfit
    have hdata : expand (s.dec.place p r).curRuns (rxPageOf s m w).w = px := hexpand
    rw [State.rowEnd, hdone, andThen_next, hdata] at hx
    have href : (s.dec.place p r).rowRuns (rxPageOf s m w) = r.runs := rowRuns_of_good hgood
    refine ⟨_, hx, rfl, rfl, rfl, ?_, ?_, ?_, rfl, rfl, rfl, rfl, rfl, rfl, rfl, rfl⟩
    · exact (congrArg List.sum href).trans hsum
    · exact (congrArg (expand · w.toNat) href).trans hexpand
    · show (PageStats.countRow _ s.dec.page).badRows = _
      rw [hgood, badRows_countRow_of_good]

end Sys2Proof.Machine
end

section
/-! PROOFS. The power-on values (R352, R353), the K countdown (R175) and the end of a transmit page (R288). -/

namespace Sys2Proof.Machine

/-- Settles O10: the reset state is written out, so each value is read off it. -/
theorem powerOnValues : Obligations.PowerOnValues := by
  refine ⟨?_, ?_⟩ <;> and_intros <;> rfl

/-- Before row number `row` of a page the countdown is below K, and it ends at a row whose number K divides (R175). -/
theorem iterate_countdown {k : Nat} (hk : 1 ≤ k) (row : Nat) :
    (fun c => (countdown k c).2)^[row] 0 < k ∧ k ∣ (fun c => (countdown k c).2)^[row] 0 + row := by
  induction row with
  | zero => exact ⟨hk, dvd_zero k⟩
  | succ row ih =>
    rw [Function.iterate_succ_apply']
    generalize (fun c => (countdown k c).2)^[row] 0 = c at ih
    obtain ⟨hlt, hdvd⟩ := ih
    cases c with
    | zero =>
      refine ⟨Nat.sub_lt hk Nat.one_pos, ?_⟩
      have hsum : (countdown k 0).2 + (row + 1) = k + (0 + row) := by simp only [countdown, if_pos]; omega
      exact hsum ▸ (Nat.dvd_add_right dvd_rfl).mpr hdvd
    | succ n =>
      have hsum : (countdown k (n + 1)).2 + (row + 1) = n + 1 + row := by simp [countdown]; omega
      exact ⟨Nat.lt_of_succ_lt hlt, hsum ▸ hdvd⟩

/-- A row is 2D exactly when its countdown is not 0 (R175). -/
theorem countdown_fst (k n : Nat) : (countdown k n).1 = decide (n ≠ 0) := by cases n <;> rfl

/-- Settles O55: the countdown ends at a multiple of K and is below K, so it is 0 exactly at the multiples of K. -/
theorem everyKthRowIsOneDimensional : Obligations.EveryKthRowIsOneDimensional := by
  intro k hk
  refine ⟨rfl, fun _ => rfl, fun row => ?_⟩
  obtain ⟨hlt, hdvd⟩ := iterate_countdown hk row
  rw [countdown_fst, decide_eq_decide, not_iff_not, ← Nat.dvd_iff_mod_eq_zero]
  constructor
  · intro h0
    rwa [h0, Nat.zero_add] at hdvd
  · intro hrow
    exact Nat.eq_zero_of_dvd_of_lt ((Nat.dvd_add_left hrow).mp hdvd) hlt

/-- The snapshot of TX_END_PAGE where the counters fit their words (R288, R355). -/
theorem snapshot_eq {pg : TxPage} {e : Enc} (hpages : e.stats.pages.toNat + 1 < 2 ^ 32) (hrows : e.rows < 2 ^ 32)
    (hsize : (e.emitted + 7) / 8 < 2 ^ 32) :
    e.snapshot pg = .next
      ⟨e.stats.pages + 1, BitVec.ofNat 32 pg.w, BitVec.ofNat 32 e.rows, e.pcfg.xres.getD 0, e.pcfg.yres.getD 0, 0, 0,
        BitVec.ofNat 32 (codeOfMode pg.mode), BitVec.ofNat 32 ((e.emitted + 7) / 8)⟩ := by
  have hword : BitVec.ofNat 32 (e.stats.pages.toNat + 1) = e.stats.pages + 1 :=
    BitVec.eq_of_toNat_eq (by simp)
  simp only [Enc.snapshot, statWord_eq hpages, statWord_eq hrows, statWord_eq hsize, andThen_next, hword]

/-- Settles O20: in a page, the counters bounded, the snapshot answers, and the command ends the page with it. -/
theorem txEndPageSnapshots : Obligations.TxEndPageSnapshots := by
  intro s m w b hpage hpages hrows hsize
  have hwidth : BitVec.ofNat 32 (txPageOf s m w b).w = w := by simp [txPageOf]
  change execTxEndPage s = _
  rw [execTxEndPage, txPage_of_inTxPage hpage, andThen_next, snapshot_eq hpages hrows hsize, andThen_next, finishTx_eq,
    hwidth]
  cases m <;> rfl

end Sys2Proof.Machine
end

section
/-! PROOFS. What an encoder in a page keeps through delivery (R177 to R187, R291 to R293): the registers that a pull does not
write, and the facts that every pull leaves as it found them. -/

namespace Sys2Proof.Machine

/-! ## The registers that a page's delivery does not write -/

/-- The encoder registers that only lifecycle commands and setters write (R22 to R25, R51). -/
structure EncSetup where
  life : Life
  cfg : TxCfg
  pcfg : TxCfg
  k : Option Nat
  stats : Stats

/-- The setup registers of an encoder. -/
def Enc.setup (e : Enc) : EncSetup := ⟨e.life, e.cfg, e.pcfg, e.k, e.stats⟩

/-- What an emission leaves alone, register by register (R141). -/
theorem Enc.EmitFrame.regs {e t : Enc} (h : e.EmitFrame t) :
    t.setup = e.setup ∧ t.rowsTo1d = e.rowsTo1d ∧ t.refRuns = e.refRuns ∧ t.curRuns = e.curRuns ∧
      t.srcDone = e.srcDone ∧ t.termDone = e.termDone ∧ t.rowReadError = e.rowReadError ∧ t.rows = e.rows := by
  unfold Enc.EmitFrame at h
  exact ⟨(congrArg Enc.setup h :), (congrArg Enc.rowsTo1d h :), (congrArg Enc.refRuns h :), (congrArg Enc.curRuns h :),
    (congrArg Enc.srcDone h :), (congrArg Enc.termDone h :), (congrArg Enc.rowReadError h :), (congrArg Enc.rows h :)⟩

/-! ## The facts that a pull keeps -/

/-- What holds of an encoder in a page between two pulls, in the terms of the page's configuration. -/
structure PullInv (pg : TxPage) (e : Enc) : Prop where
  /-- Growth makes room for a byte (R82). -/
  grow : 1 ≤ pg.outGrow
  packed : e.Packed
  /-- R175. -/
  countdown : pg.mode = .t42d → e.rowsTo1d < pg.k
  /-- R26, R179. -/
  ref : e.refRuns.sum = pg.w
  /-- R183, R186. -/
  doneWhole : e.termDone = true → e.accBits = 0
  nomemDone : e.nomem = true → e.termDone = true
  sourceDone : e.srcDone = true → e.termDone = true
  errorDone : e.rowReadError = true → e.srcDone = true
  /-- R333. -/
  rowsFit : e.rows < Config.wordLimit

/-! ## The padding ends a byte (R142, R183) -/

/-- After a completed byte no bit waits, whether it was stored or lost (R141). -/
theorem completeByte_accBits (grow : Nat) (e : Enc) : (e.completeByte grow).accBits = 0 := by
  rcases completeByte_cases grow e with ⟨_, h⟩ | ⟨_, _, h⟩ | ⟨_, _, h⟩ <;> exact (congrArg Enc.accBits h :)

/-- A bit counts up to a whole byte (R141). -/
theorem emitBit_accBits (grow : Nat) (b : Bool) {e : Enc} (h : e.accBits ≤ 7) :
    (e.emitBit grow b).accBits = (e.accBits + 1) % 8 := by
  unfold Enc.emitBit
  dsimp only
  split
  · rename_i h8
    rw [completeByte_accBits, h8]
  · dsimp only at *
    omega

/-- Where no growth fails, bits wait modulo 8 (R141). -/
theorem emitBits_accBits {grow : Nat} (hg : 1 ≤ grow) (s : List Bool) {e : Enc} (h : e.Packed)
    (hn : (e.emitBits grow s).nomem = false) : (e.emitBits grow s).accBits = (e.accBits + s.length) % 8 := by
  induction s generalizing e with
  | nil => exact (Nat.mod_eq_of_lt (Nat.lt_succ_of_le h.accBits)).symm
  | cons b s ih =>
    unfold Enc.emitBits at hn ⊢
    split at hn
    · exact absurd hn (by simpa)
    · rename_i hne
      rw [if_neg hne, ih (emitBit_packed hg b h (Bool.eq_false_of_not_eq_true hne)) hn, emitBit_accBits grow b h.accBits,
        List.length_cons]
      omega

theorem emit_accBits {grow : Nat} (hg : 1 ≤ grow) (s : List Bool) {e : Enc} (h : e.Packed)
    (hn : (e.emit grow s).nomem = false) : (e.emit grow s).accBits = (e.accBits + s.length) % 8 := by
  unfold Enc.emit at hn ⊢
  dsimp only at hn ⊢
  split at hn
  · exact absurd hn (by simpa)
  · rename_i hne
    rw [if_neg hne]
    split at hn
    · exact absurd hn (by simpa)
    · rename_i hne'
      rw [if_neg hne']
      exact emitBits_accBits hg s h (Bool.eq_false_of_not_eq_true hne')

/-- After the padding no bit waits (R142, R183). -/
theorem pad_accBits {grow : Nat} (hg : 1 ≤ grow) {e : Enc} (h : e.Packed) : (e.pad grow).accBits = 0 := by
  cases hn : (e.pad grow).nomem with
  | true => exact (emit_packed hg _ h).nomemEmpty hn
  | false =>
    have hacc := h.accBits
    rw [Enc.pad, emit_accBits hg _ h hn, zeros, List.length_replicate]
    omega

/-! ## Delivery -/

/-- One encoder comes from another by operations of delivery in a page: they write neither the lifecycle nor the
configuration, and keep the facts of the page. -/
structure Delivers (pg : TxPage) (e t : Enc) : Prop where
  setup : t.setup = e.setup
  keeps : PullInv pg e → PullInv pg t

theorem Delivers.refl (pg : TxPage) (e : Enc) : Delivers pg e e := ⟨rfl, id⟩

theorem Delivers.trans {pg : TxPage} {a b c : Enc} (h : Delivers pg a b) (k : Delivers pg b c) : Delivers pg a c :=
  ⟨k.setup.trans h.setup, k.keeps ∘ h.keeps⟩

/-- The read cursor is no part of the facts of the page (R33). -/
theorem delivers_outPos (pg : TxPage) (e : Enc) (n : Nat) : Delivers pg e { e with outPos := n } :=
  ⟨rfl, fun h => { h with packed := { h.packed with } }⟩

/-- The page's end leaves whole bytes, and the page over (R181 to R183). -/
theorem terminatePage_delivers {pg : TxPage} {e t : Enc} (hsetup : t.setup = e.setup)
    (ht : PullInv pg e → t.Packed ∧ (t.rowReadError = true → t.srcDone = true) ∧ t.rowsTo1d = e.rowsTo1d ∧
      t.refRuns = e.refRuns ∧ t.rows = e.rows) : Delivers pg e (t.terminatePage pg) := by
  obtain ⟨hs, hcount, href, -, hsrc, hterm, herr, hrows⟩ := (terminatePage_frame pg t).regs
  refine ⟨hs.trans hsetup, fun hinv => ?_⟩
  obtain ⟨hpacked, hdone, hcount', href', hrows'⟩ := ht hinv
  have hcodes := emitAll_packed hinv.grow ((terminatorCodes pg.mode).map codeBits) hpacked
  have hpad : (Enc.pad pg.outGrow _).Packed := emit_packed hinv.grow _ hcodes
  exact {
    grow := hinv.grow
    packed := { hpad with }
    countdown := fun hm => hcount.trans hcount' ▸ hinv.countdown hm
    ref := href.trans href' ▸ hinv.ref
    doneWhole := fun _ => pad_accBits hinv.grow hcodes
    nomemDone := fun _ => rfl
    sourceDone := fun _ => rfl
    errorDone := fun he => hsrc ▸ hdone (herr ▸ he)
    rowsFit := hrows.trans hrows' ▸ hinv.rowsFit }

/-- The runs of a row are as long as the page is wide (R120, R121). -/
theorem sum_runLengthsOfRow (row : List Byte) (w : Nat) : (runLengthsOfRow row w).sum = w := by
  rw [runLengthsOfRow, sum_runsOf, unpack, List.length_map, List.length_range]

/-- The countdown of a `T4_2D` row stays below K (R175). -/
theorem countdownAfter_lt {pg : TxPage} {n : Nat} (hm : pg.mode = .t42d) (hn : n < pg.k) : countdownAfter pg n < pg.k := by
  rw [countdownAfter, hm]
  cases n with
  | zero => exact Nat.sub_lt hn Nat.one_pos
  | succ n => exact Nat.lt_of_succ_lt hn

/-- A row that is encoded; where memory ran out, the page is then over (R178, R186). -/
theorem encodeRow_delivers {pg : TxPage} {buf : List Byte} {e t : Enc} (hdone : e.termDone = false)
    (h : e.encodeRow pg buf = .next t) : Delivers pg e (if t.nomem then { t with termDone := true } else t) := by
  obtain ⟨u, hu, hframe, hrows, rfl⟩ := encodeRow_eq_next h
  obtain ⟨hsetup, hcount, -, hruns, hsrc, hterm, herr, -⟩ := hframe.regs
  refine ⟨by split <;> exact hsetup, fun hinv => ?_⟩
  have hpacked : u.Packed := hu ▸ fill_packed hinv.grow (emitAll_packed hinv.grow _ { hinv.packed with })
  have hcountdown (hm : pg.mode = .t42d) : u.rowsTo1d < pg.k := hcount ▸ countdownAfter_lt hm (hinv.countdown hm)
  have href : u.curRuns.sum = pg.w := hruns ▸ sum_runLengthsOfRow buf pg.w
  have hopen : u.termDone ≠ true := by simp [hterm, hdone]
  have hsource : u.srcDone ≠ true := fun hs => by simp [hinv.sourceDone (hsrc ▸ hs)] at hdone
  have herror (he : u.rowReadError = true) : u.srcDone = true := hsrc ▸ hinv.errorDone (herr ▸ he)
  split
  · rename_i hnomem
    exact ⟨hinv.grow, { hpacked with }, hcountdown, href, fun _ => hpacked.nomemEmpty hnomem, fun _ => rfl, fun _ => rfl,
      herror, hrows⟩
  · rename_i hnomem
    exact ⟨hinv.grow, { hpacked with }, hcountdown, href, fun ht => absurd ht hopen, fun hn => absurd hn hnomem,
      fun hs => absurd hs hsource, herror, hrows⟩

/-- A pull (R177). -/
theorem encodeNextRow_delivers {pg : TxPage} {e t : Enc} (hdone : e.termDone = false)
    (h : e.encodeNextRow pg = .next t) : Delivers pg e t := by
  have hread : Delivers pg e (e.afterRead (bytesPerRow pg.w)) :=
    ⟨rfl, fun hinv => { hinv with packed := { hinv.packed with } }⟩
  refine hread.trans ?_
  rcases takeAnswer_eq_next h with ⟨_, rfl⟩ | ⟨_, rfl⟩ | ⟨_, _, u, hu, rfl⟩
  · exact terminatePage_delivers rfl fun hinv => ⟨{ hinv.packed with }, fun _ => rfl, rfl, rfl, rfl⟩
  · exact terminatePage_delivers rfl fun hinv => ⟨{ hinv.packed with }, fun _ => rfl, rfl, rfl, rfl⟩
  · exact encodeRow_delivers hdone hu

/-- Production on demand (R187). -/
theorem ensure_delivers {pg : TxPage} {k : Nat} {e t : Enc} (h : e.ensure pg k = .next t) : Delivers pg e t :=
  ensure_keeps (P := Delivers pg e) (fun _ _ hu hdone ht => hu.trans (encodeNextRow_delivers hdone ht)) k (.refl pg e) h

/-- A delivered byte (R292). -/
theorem nextByte_delivers {pg : TxPage} {e : Enc} {r : Option Byte × Enc} (h : e.nextByte pg = .next r) :
    Delivers pg e r.2 := by
  obtain ⟨u, hu, h⟩ := andThen_eq_next h
  refine (ensure_delivers hu).trans ?_
  split at h
  · cases h
    exact .refl pg u
  · obtain ⟨bs, _, h⟩ := andThen_eq_next h
    cases h
    exact delivers_outPos pg u _

/-- A delivered chunk (R293). -/
theorem nextBytes_delivers {pg : TxPage} {n : Nat} {e : Enc} {r : List Byte × Enc} (h : e.nextBytes pg n = .next r) :
    Delivers pg e r.2 := by
  induction n generalizing e r with
  | zero =>
    cases h
    exact .refl pg e
  | succ n ih =>
    obtain ⟨⟨v, u⟩, hu, h⟩ := andThen_eq_next h
    refine (nextByte_delivers hu).trans ?_
    cases v with
    | none =>
      cases h
      exact .refl pg u
    | some v =>
      obtain ⟨q, hq, h⟩ := andThen_eq_next h
      cases h
      exact (ih hq : Delivers pg u q.2)

end Sys2Proof.Machine
end

section
/-! PROOFS. Every step keeps the encoder's invariant: the transmit commands one by one, delivery through the facts that a
pull keeps, and everything else leaves the encoder alone (R26, R70, R72, R82, R140, R175 to R187). -/

namespace Sys2Proof.Machine

/-! ## What a step is -/

/-- A step that answers is the idle step, a due decision, or a host command without a decision due (R85, R201, R342). -/
theorem step_eq_next {s t : State} (h : step s = .next t) :
    t = s ∨ (decisionDue s = true ∧ decide1 s = .next t) ∨
    (decisionDue s = false ∧ ∃ c rest i, decodeCommand c = .ok i ∧ exec i (s.withQueue rest) = .next t) := by
  cases hdue : decisionDue s with
  | true => exact .inr (.inl ⟨rfl, step_eq_decide1 hdue ▸ h⟩)
  | false =>
    unfold step nextWork at h
    rw [if_neg (by simp [hdue])] at h
    cases hq : s.host.queue with
    | nil =>
      rw [hq] at h
      exact .inl (Host.Outcome.next.inj h).symm
    | cons c rest =>
      rw [hq] at h
      cases hc : decodeCommand c with
      | ok i =>
        simp only [commandWork, hc] at h
        exact .inr (.inr ⟨rfl, c, rest, i, hc, h⟩)
      | error x =>
        simp only [commandWork, hc] at h
        cases h

/-- No instruction and no step writes the parameters (R9, log 6). -/
theorem exec_par {i : Instr} {s t : State} (h : exec i s = .next t) : t.par = s.par := by
  cases hi : isTx i with
  | true => exact (exec_encOnly hi s t h).1
  | false => exact (exec_decOnly hi s t h).1

/-! ## Delivery commands -/

/-- An operation of delivery in the page of a state. -/
def DeliversIn (s t : State) : Prop := ∃ pg, txPage s = .next pg ∧ Delivers pg s.enc t.enc

theorem execTxGetBit_delivers {s t : State} (h : execTxGetBit s = .next t) : DeliversIn s t := by
  obtain ⟨pg, hp, h⟩ := andThen_eq_next h
  obtain ⟨e, he, h⟩ := andThen_eq_next h
  refine ⟨pg, hp, (ensure_delivers he).trans ?_⟩
  split at h
  · cases h
    exact .refl pg e
  · obtain ⟨b, -, h⟩ := andThen_eq_next h
    obtain ⟨u, hu, h⟩ := andThen_eq_next h
    cases h
    exact (delivers_outPos pg e _).trans (ensure_delivers hu)

theorem execTxGetByte_delivers {s t : State} (h : execTxGetByte s = .next t) : DeliversIn s t := by
  obtain ⟨pg, hp, h⟩ := andThen_eq_next h
  obtain ⟨-, h⟩ := admitIf_eq_next h
  obtain ⟨⟨v, e⟩, he, h⟩ := andThen_eq_next h
  refine ⟨pg, hp, (nextByte_delivers he).trans ?_⟩
  cases v with
  | none =>
    cases h
    exact .refl pg e
  | some v =>
    obtain ⟨u, hu, h⟩ := andThen_eq_next h
    cases h
    exact ensure_delivers hu

theorem execTxGetChunk_delivers {maxLen : Word} {buf : List Byte} {s t : State}
    (h : execTxGetChunk maxLen buf s = .next t) : DeliversIn s t := by
  obtain ⟨pg, hp, h⟩ := andThen_eq_next h
  obtain ⟨-, h⟩ := admitIf_eq_next h
  obtain ⟨-, h⟩ := admitIf_eq_next h
  obtain ⟨-, h⟩ := admitIf_eq_next h
  obtain ⟨r, hr, h⟩ := andThen_eq_next h
  cases h
  exact ⟨pg, hp, nextBytes_delivers hr⟩

/-! ## The invariant in a page -/

/-- A sound encoder in a page has the facts that a pull keeps. -/
theorem EncInv.pullInv {s : State} {pg : TxPage} (hpar : ParamsOk s.par) (h : EncInv s.par s.enc)
    (hp : txPage s = .next pg) : PullInv pg s.enc := by
  obtain ⟨hlife, m, w, b, k, hmode, hwidth, -, hk, rfl⟩ := txPage_eq_next hp
  refine ⟨hpar.outGrow, ⟨h.outWf, h.outListed, h.outCap, h.accBits, h.accClean, h.doneWhole ∘ h.nomemDone⟩, ?_,
    h.pageRef hlife w hwidth, h.doneWhole, h.nomemDone, h.sourceDone, h.errorDone, h.rowsFit⟩
  rintro rfl
  obtain ⟨k', hk', hlt⟩ := h.pageK hlife hmode
  rw [hk'] at hk
  exact Host.Outcome.next.inj hk ▸ hlt

/-- An encoder that delivers in a page stays sound. -/
theorem EncInv.delivers {s t : State} (hpar : ParamsOk s.par) (h : EncInv s.par s.enc) (hd : DeliversIn s t) :
    EncInv s.par t.enc := by
  obtain ⟨pg, hp, hsetup, hkeeps⟩ := hd
  have hpull := hkeeps (h.pullInv hpar hp)
  obtain ⟨hlife, m, w, b, k, hmode, hwidth, hmin, hk, rfl⟩ := txPage_eq_next hp
  obtain ⟨-, hcfg, hpcfg, hkreg, -⟩ := EncSetup.mk.inj hsetup
  exact {
    outWf := hpull.packed.outWf
    outListed := hpull.packed.outListed
    outCap := hpull.packed.outCap
    accBits := hpull.packed.accBits
    accClean := hpull.packed.accClean
    cfgWidth := hcfg ▸ h.cfgWidth
    pageWidth := hpcfg ▸ h.pageWidth
    cfgMinRowBits := hcfg ▸ h.cfgMinRowBits
    pageCfg := fun _ => by simp [hpcfg, hmode, hwidth, hmin]
    pageK := fun _ hm => by
      obtain rfl : m = .t42d := Option.some.inj (hmode.symm.trans (hpcfg ▸ hm))
      obtain ⟨k', hk', -⟩ := h.pageK hlife hmode
      rw [hk'] at hk
      exact ⟨k, by rw [hkreg, hk', Host.Outcome.next.inj hk], hpull.countdown rfl⟩
    pageRef := fun _ x hx => by
      obtain rfl : w = x := Option.some.inj (hwidth.symm.trans (hpcfg ▸ hx))
      exact hpull.ref
    doneWhole := hpull.doneWhole
    nomemDone := hpull.nomemDone
    sourceDone := hpull.sourceDone
    errorDone := hpull.errorDone
    rowsFit := hpull.rowsFit }

/-! ## Lifecycle commands and setters -/

theorem widthOk_none (p : Params) : WidthOk p none := fun _ h => nomatch h

theorem widthOk_of_admitted {p : Params} {w : Word} (h : widthAdmitted p w = true) : WidthOk p (some w) := by
  rintro x ⟨⟩
  simpa [widthAdmitted] using h

section
variable {p : Params} {e : Enc}

theorem EncInv.init (h : EncInv p e) : EncInv p e.init :=
  { h with
    outWf := Memory.wf_nil
    outListed := fun _ hi => absurd hi (Nat.not_lt_zero _)
    outCap := Nat.le_refl 0
    cfgWidth := widthOk_none p
    pageWidth := widthOk_none p
    cfgMinRowBits := rfl
    pageCfg := nofun
    pageK := nofun
    pageRef := nofun
    doneWhole := nofun
    nomemDone := nofun
    sourceDone := nofun
    errorDone := nofun }

theorem EncInv.release (h : EncInv p e) : EncInv p e.release := by
  unfold Enc.release
  split
  · exact h
  · exact { h with
      outWf := Memory.wf_nil
      outListed := fun _ hi => absurd hi (Nat.not_lt_zero _)
      outCap := Nat.le_refl 0
      pageCfg := nofun
      pageK := nofun
      pageRef := nofun
      nomemDone := nofun }

/-- A setter stages a width that R283 admits, and keeps the minimum row set. -/
theorem EncInv.withCfg {c : TxCfg} (h : EncInv p e) (hw : WidthOk p c.width) (hmin : c.minRowBits.isSome) :
    EncInv p { e with cfg := c } := { h with cfgWidth := hw, cfgMinRowBits := hmin }

theorem EncInv.withAlloc (h : EncInv p e) (a : Alloc) : EncInv p { e with alloc := a } := { h with }

theorem EncInv.endPage (h : EncInv p e) (st : Stats) : EncInv p { e with stats := st, life := .idle } :=
  { h with pageCfg := nofun, pageK := nofun, pageRef := nofun }

theorem EncInv.withOutPos (h : EncInv p e) (n : Nat) : EncInv p { e with outPos := n } := { h with }

theorem kOf_pos (hpar : ParamsOk p) (y : Word) : 1 ≤ kOf p y := by
  unfold kOf
  split
  · rename_i k hk
    obtain ⟨before, after, htable, -⟩ := List.lookup_eq_some_iff.mp hk
    exact hpar.kTable (y.toNat, k) (by simp [htable])
  · exact hpar.kDefault

/-- An opened page has the staged configuration, a K in `T4_2D`, and a white reference row (R287). -/
theorem EncInv.startPage (hpar : ParamsOk p) (h : EncInv p e) (hcfg : e.cfg.startable = true) :
    EncInv p (Enc.startPage p e) := by
  simp only [TxCfg.startable, Bool.and_eq_true, Bool.or_eq_true, bne_iff_ne] at hcfg
  obtain ⟨⟨hmode, hwidth⟩, hyres⟩ := hcfg
  exact { h with
    outListed := fun _ hi => absurd hi (Nat.not_lt_zero _)
    outCap := Nat.zero_le _
    accBits := Nat.zero_le _
    accClean := Nat.one_pos
    pageWidth := h.cfgWidth
    pageCfg := fun _ => ⟨hmode, hwidth, h.cfgMinRowBits⟩
    pageK := fun _ hm => by
      have hm : e.cfg.mode = some .t42d := hm
      obtain ⟨y, hy⟩ := Option.isSome_iff_exists.mp (hyres.resolve_left fun hne => hne hm)
      exact ⟨kOf p y, by simp [Enc.startPage, kAfterStart, hm, hy], kOf_pos hpar y⟩
    pageRef := fun _ w hw => by
      have hw : e.cfg.width = some w := hw
      simp [Enc.startPage, hw]
    doneWhole := nofun
    nomemDone := nofun
    sourceDone := nofun
    errorDone := nofun
    rowsFit := Nat.two_pow_pos 32 }

end

/-! ## Every instruction and every step -/

theorem execTxStartPage_encInv {s t : State} (hpar : ParamsOk s.par) (hinv : EncInv s.par s.enc)
    (h : execTxStartPage s = .next t) : EncInv s.par t.enc := by
  obtain ⟨-, h⟩ := admitIf_eq_next h
  obtain ⟨hcfg, h⟩ := admitIf_eq_next h
  split at h <;> cases h
  · exact (hinv.withAlloc _).startPage hpar hcfg
  · exact hinv.withAlloc _

/-- A transmit command keeps the encoder sound. -/
theorem exec_encInv {i : Instr} {s t : State} (hi : isTx i = true) (hpar : ParamsOk s.par) (hinv : EncInv s.par s.enc)
    (h : exec i s = .next t) : EncInv s.par t.enc := by
  cases i with
  | txInit =>
    obtain ⟨-, h⟩ := admitIf_eq_next h
    cases h
    exact hinv.init
  | txRelease =>
    cases h
    exact hinv.release
  | txSetMode mode =>
    obtain ⟨-, h⟩ := admitIf_eq_next h
    split at h <;> cases h
    exact hinv.withCfg hinv.cfgWidth hinv.cfgMinRowBits
  | txSetWidth width =>
    obtain ⟨-, h⟩ := admitIf_eq_next h
    obtain ⟨hw, h⟩ := admitIf_eq_next h
    cases h
    exact hinv.withCfg (widthOk_of_admitted hw) hinv.cfgMinRowBits
  | txSetXres code | txSetYres code =>
    obtain ⟨-, h⟩ := admitIf_eq_next h
    cases h
    exact hinv.withCfg hinv.cfgWidth hinv.cfgMinRowBits
  | txSetMinRowBits bits =>
    obtain ⟨-, h⟩ := admitIf_eq_next h
    cases h
    exact hinv.withCfg hinv.cfgWidth rfl
  | txStartPage => exact execTxStartPage_encInv hpar hinv h
  | txEndPage =>
    obtain ⟨pg, -, h⟩ := andThen_eq_next h
    obtain ⟨st, -, h⟩ := andThen_eq_next h
    cases h
    exact hinv.endPage st
  | txRestartPage =>
    obtain ⟨-, h⟩ := admitIf_eq_next h
    cases h
    exact hinv.withOutPos 0
  | txGetBit => exact hinv.delivers hpar (execTxGetBit_delivers h)
  | txGetByte => exact hinv.delivers hpar (execTxGetByte_delivers h)
  | txGetChunk maxLen buf => exact hinv.delivers hpar (execTxGetChunk_delivers h)
  | txNextPageDifferent | txGetStats =>
    obtain ⟨-, h⟩ := admitIf_eq_next h
    cases h
    exact hinv
  | _ => cases hi

/-- Settles O12: a transmit command keeps the encoder sound, and any other step leaves it alone. -/
theorem stepKeepsTheEncoderInvariant : Obligations.StepKeepsTheEncoderInvariant := by
  intro s t hpar hinv h
  rcases step_eq_next h with rfl | ⟨-, h⟩ | ⟨-, c, rest, i, -, h⟩
  · exact hinv
  · obtain ⟨hpar', -, henc, -⟩ := decide1_decOnly s t h
    exact hpar' ▸ henc ▸ hinv
  · rw [exec_par h]
    cases hi : isTx i with
    | true => exact exec_encInv hi hpar hinv h
    | false =>
      obtain ⟨-, -, henc, -⟩ := exec_decOnly hi _ t h
      exact henc ▸ hinv

end Sys2Proof.Machine
end

section
/-! PROOFS. What the operations on the row in progress keep in a page of the receive channel: the registers that none of them
writes, and the facts of the page, part by part (R40 to R50, R71, R207 to R218, R260 to R276). -/

namespace Sys2Proof.Machine

/-! ## The facts of a page, part by part -/

/-- The window holds at most 13 bits, nothing above them, and at most 12 bits are left to skip (R40, R41, R144). -/
structure WindowOk (win : BitVec 13) (count skip : Nat) : Prop where
  countLe : count ≤ 13
  clean : win.toNat < 2 ^ count
  skipLe : skip ≤ 12

/-- The position, the row's total and the RunArray's room (R45, R12, R216). -/
structure RowOk (pg : RxPage) (a0 : Int) (runs : List Nat) (acc : Nat) : Prop where
  a0Ge : -1 ≤ a0
  total : runs.sum + acc < Config.runLimit
  room : runs.length + 2 ≤ pg.runsCap

/-- The image holds every committed row within its capacity; the reference row and the bad-row counters fit it (R70, R71,
R81, R260, R271). -/
structure ImageOk (w : Nat) (img : Memory) (rows cap : Nat) (ref : List Nat) (page : PageStats) : Prop where
  wf : img.wf = true
  capGe : rows ≤ cap
  listed : ∀ i < rows * bytesPerRow w, (readByte img i).isSome
  refSum : ref.sum = w
  badRows : page.longestBadRun + page.curBadRun ≤ page.badRows ∧ page.badRows ≤ rows
  fit : rows < Config.wordLimit

/-- What the mode fixes about `row_is_2d` and the EOL counter, where a pair can stand, and what completes a page (R42 to R45,
R210, R218). -/
structure ModeOk (mode : Mode) (eolCount : Int) (complete is2d : Bool) (pair : HPair) (nomem : Bool) : Prop where
  eolGe : -1 ≤ eolCount
  t41d : mode = .t41d → is2d = false
  t6 : mode = .t6 → is2d = true ∧ 0 ≤ eolCount
  pairIn2d : pair ≠ .none → is2d = true ∨ nomem = true
  completeEnd : complete = true → eolThreshold mode ≤ eolCount

/-- What holds of a decoder in a page, in the terms of the page's configuration. -/
structure PageInv (pg : RxPage) (d : Dec) : Prop where
  /-- Growth makes room for a row (R81). -/
  grow : 1 ≤ pg.imgGrow
  window : WindowOk d.win d.winCount d.skip
  row : RowOk pg d.a0 d.curRuns d.runAcc
  image : ImageOk pg.w d.img d.rows d.imgCapRows d.refRuns d.page
  mode : ModeOk pg.mode d.eolCount d.complete d.rowIs2d d.hpair d.nomem
  /-- R333. -/
  bits : d.pageBits < Config.wordLimit

/-! ## The window -/

theorem WindowOk.drop {win : BitVec 13} {count skip : Nat} (h : WindowOk win count skip) (n : Nat) {k : Nat}
    (hk : k ≤ 12) : WindowOk (win >>> n) (count - n) k where
  countLe := (Nat.sub_le ..).trans h.countLe
  clean := by
    rw [BitVec.toNat_ushiftRight, Nat.shiftRight_eq_div_pow]
    rcases Nat.le_total n count with hn | hn
    · exact Nat.div_lt_of_lt_mul (by rw [← Nat.pow_add, Nat.add_sub_cancel' hn]; exact h.clean)
    · rw [Nat.sub_eq_zero_of_le hn, Nat.div_eq_of_lt (h.clean.trans_le (Nat.pow_le_pow_right Nat.two_pos hn))]
      exact Nat.one_pos
  skipLe := hk

/-- A register with one bit put above its others. -/
theorem putBit_lt {w n : Nat} {v : BitVec w} (b : Bool) (h : v.toNat < 2 ^ n) : (putBit v n b).toNat < 2 ^ (n + 1) := by
  have hpow : 2 ^ n < 2 ^ (n + 1) := Nat.pow_lt_pow_right (by omega) (by omega)
  rw [putBit, BitVec.toNat_or, BitVec.toNat_and]
  refine Nat.or_lt_two_pow (Nat.and_le_left.trans_lt (h.trans hpow)) ?_
  rw [BitVec.toNat_shiftLeft, BitVec.toNat_setWidth, Nat.shiftLeft_eq]
  refine (Nat.mod_le ..).trans_lt ?_
  have hb : (BitVec.ofBool b).toNat % 2 ^ w ≤ 1 := (Nat.mod_le ..).trans (Nat.le_of_lt_succ (BitVec.ofBool b).isLt)
  calc _ ≤ 1 * 2 ^ n := Nat.mul_le_mul_right _ hb
    _ < 2 ^ (n + 1) := by rwa [Nat.one_mul]

theorem WindowOk.append {win : BitVec 13} {count skip : Nat} (h : WindowOk win count skip) (hc : count ≤ 12) (b : Bool) :
    WindowOk (putBit win count b) (count + 1) skip := ⟨Nat.succ_le_succ hc, putBit_lt b h.clean, h.skipLe⟩

/-! ## The patch (R263 to R268) -/

theorem sum_extendLast (n : Nat) {runs : List Nat} (h : runs ≠ []) : (extendLast n runs).sum = runs.sum + n := by
  induction runs with
  | nil => exact absurd rfl h
  | cons r rs ih =>
    cases rs with
    | nil => simp [extendLast]
    | cons s rs =>
      rw [extendLast, List.sum_cons, ih (List.cons_ne_nil s rs), List.sum_cons (a := r), Nat.add_assoc]

theorem sum_truncateRuns {room : Nat} {runs : List Nat} (h : room ≤ runs.sum) : (truncateRuns room runs).sum = room := by
  induction runs generalizing room with
  | nil => exact (Nat.le_zero.mp h).symm
  | cons r rs ih =>
    rw [List.sum_cons] at h
    unfold truncateRuns
    split
    · exact List.sum_singleton
    · rw [List.sum_cons, ih (by omega)]
      omega

/-- A patched row is `W` pixels long (R263). -/
theorem sum_patchRuns (w : Nat) (runs : List Nat) : (patchRuns w runs).sum = w := by
  unfold patchRuns
  dsimp only
  split
  · assumption
  split
  · exact List.sum_singleton
  rename_i hempty
  split
  · split
    · rw [sum_extendLast _ hempty]
      omega
    · split <;> simp <;> omega
  · exact sum_truncateRuns (by omega)

/-- The reference that a row leaves is `W` pixels long (R260, R270). -/
theorem sum_rowRuns (pg : RxPage) (d : Dec) : (d.rowRuns pg).sum = pg.w := by
  unfold Dec.rowRuns
  split
  · rename_i hgood
    simp only [Dec.rowGood, Bool.and_eq_true, beq_iff_eq] at hgood
    exact hgood.1
  · exact sum_patchRuns ..

/-! ## The registers that the row operations do not write -/

/-- The decoder registers that only lifecycle commands and setters write (R22 to R24, R51). -/
structure DecSetup where
  life : Life
  cfg : RxCfg
  pcfg : RxCfg
  stats : Stats

/-- The setup registers of a decoder. -/
def Dec.setup (d : Dec) : DecSetup := ⟨d.life, d.cfg, d.pcfg, d.stats⟩

/-- The decoder registers that no operation on the row in progress writes. -/
structure DecOutside where
  setup : DecSetup
  win : BitVec 13
  winCount : Nat
  skip : Nat
  pageBits : Nat
  complete : Bool
  is2d : Bool

/-- The registers of a decoder outside the row in progress. -/
def Dec.outside (d : Dec) : DecOutside := ⟨d.setup, d.win, d.winCount, d.skip, d.pageBits, d.complete, d.rowIs2d⟩

/-- One decoder comes from another by operations on the row in progress, in an open page. -/
structure RowStep (pg : RxPage) (d t : Dec) : Prop where
  outside : t.outside = d.outside
  keeps : d.complete = false → PageInv pg d → PageInv pg t

theorem RowStep.refl (pg : RxPage) (d : Dec) : RowStep pg d d := ⟨rfl, fun _ => id⟩

theorem RowStep.after {pg : RxPage} {a b c : Dec} (k : RowStep pg b c) (h : RowStep pg a b) : RowStep pg a c where
  outside := k.outside.trans h.outside
  keeps hc hinv := k.keeps ((congrArg DecOutside.complete h.outside).trans hc) (h.keeps hc hinv)

/-! ## Commit -/

/-- The row that a closed run leaves (R215, R216). -/
theorem appendRun_rowOk {pg : RxPage} {n : Nat} {d u : Dec} (h : d.appendRun pg.runsCap (d.runAcc + n) = .next u)
    (hrow : RowOk pg d.a0 d.curRuns d.runAcc) {a0 : Int} (ha0 : -1 ≤ a0) : RowOk pg a0 u.curRuns 0 := by
  obtain ⟨-, ⟨-, rfl⟩ | ⟨hlen, hsum, rfl⟩⟩ := appendRun_eq_next h
  · exact ⟨ha0, (Nat.le_add_right ..).trans_lt hrow.total, hrow.room⟩
  · refine ⟨ha0, by simp; omega, ?_⟩
    dsimp only
    rw [List.length_append, List.length_singleton]
    omega

/-- An empty row (R211). -/
theorem RowOk.reset {pg : RxPage} {a0 : Int} {runs : List Nat} {acc : Nat} (h : RowOk pg a0 runs acc) :
    RowOk pg (-1) [] 0 :=
  ⟨le_rfl, Nat.two_pow_pos 31, (Nat.add_le_add_right (Nat.zero_le _) 2).trans h.room⟩

theorem PageInv.rowReset {pg : RxPage} {d : Dec} (h : PageInv pg d) : PageInv pg d.rowReset :=
  { h with row := h.row.reset, mode := { h.mode with pairIn2d := fun hp => absurd rfl hp } }

/-- The image after one more row (R260, R271, R276). -/
theorem ImageOk.store {w : Nat} {img : Memory} {rows cap : Nat} {ref ref' : List Nat} {page : PageStats} {data : List Byte}
    (h : ImageOk w img rows cap ref page) (hcap : rows < cap) (hfit : rows + 1 < Config.wordLimit)
    (hdata : data.length = bytesPerRow w) (href : ref'.sum = w) (good : Bool) (bits : Nat) :
    ImageOk w (memWrite img (rows * bytesPerRow w) data) (rows + 1) cap ref' ((page.countRow good).countBits bits) where
  wf := memWrite_wf _ _ h.wf
  capGe := hcap
  listed i hi := by
    rw [Nat.add_mul, Nat.one_mul] at hi
    rcases Nat.lt_or_ge i (rows * bytesPerRow w) with hlt | hge
    · rw [readByte_memWrite_below _ _ hlt]
      exact h.listed i hlt
    · obtain ⟨j, rfl⟩ := Nat.exists_eq_add_of_le hge
      rw [readByte_memWrite_at _ _ _ (by omega)]
      rfl
  refSum := href
  badRows := by
    have := h.badRows
    unfold PageStats.countBits PageStats.countRow PageStats.foldBadRun
    split
    · split
      · dsimp only
        omega
      · dsimp only
        omega
    · dsimp only
      omega
  fit := hfit

/-- Closing the open run writes the RunArray and its overflow flag only (R260). -/
theorem closeRow_frame {pg : RxPage} {d t : Dec} (h : d.closeRow pg = .next t) :
    ∃ runs full, t = { d with curRuns := runs, overflow := full } := by
  rcases closeRow_eq_next h with rfl | ⟨-, rfl⟩ | ⟨-, rfl⟩ <;> exact ⟨_, _, rfl⟩

/-- Room for a row, there or granted (R81, R272). -/
theorem growImage_room {pg : RxPage} {d t : Dec} (h : d.growImage pg = (true, t)) :
    t.outside = d.outside ∧ (PageInv pg d → PageInv pg t ∧ t.rows < t.imgCapRows) := by
  rcases growImage_cases pg d with ⟨hne, hgrow⟩ | ⟨heq, _, hgrow⟩ | ⟨_, _, hgrow⟩ <;> rw [hgrow] at h <;> cases h
  · exact ⟨rfl, fun hinv => ⟨hinv, lt_of_le_of_ne hinv.image.capGe hne⟩⟩
  · refine ⟨rfl, fun hinv => ?_⟩
    have hroom : d.rows < d.imgCapRows + pg.imgGrow := heq ▸ Nat.lt_add_of_pos_right hinv.grow
    exact ⟨{ hinv with image := { hinv.image with capGe := hroom.le } }, hroom⟩

/-- A commit (R260, R272): the row stored, or no memory; either way no pair stands in the page. -/
theorem commitRow_keeps {pg : RxPage} {d t : Dec} (h : d.commitRow pg = .next t) :
    t.outside = d.outside ∧ (PageInv pg d → PageInv pg t) ∧ (t.hpair = .none ∨ t.nomem = true) := by
  rcases commitRow_eq_next h with hg | ⟨d1, d2, data, hg, h2, h3, hfit, rfl⟩
  · rcases growImage_cases pg d with ⟨_, hgrow⟩ | ⟨_, _, hgrow⟩ | ⟨_, _, hgrow⟩ <;> rw [hgrow] at hg <;> cases hg
    exact ⟨rfl, fun hinv => { hinv with mode := { hinv.mode with pairIn2d := fun _ => .inr rfl } }, .inr rfl⟩
  · obtain ⟨hout, hroom⟩ := growImage_room hg
    have hlen := rowData_length h3
    obtain ⟨runs, full, rfl⟩ := closeRow_frame h2
    refine ⟨hout, fun hinv => ?_, .inl rfl⟩
    obtain ⟨hd1, hcap⟩ := hroom hinv
    exact { hd1 with
      row := hd1.row.reset
      image := hd1.image.store hcap hfit hlen (sum_rowRuns ..) _ _
      mode := { hd1.mode with pairIn2d := fun hp => absurd rfl hp } }

/-! ## The other operations on the row -/

theorem neg_one_le_of_nonneg {n : Int} (h : 0 ≤ n) : -1 ≤ n := by omega

/-- A new EOL count, in a page that is not complete (R207, R236). -/
theorem PageInv.withEolCount {pg : RxPage} {d : Dec} (h : PageInv pg d) (hc : d.complete = false) {n : Int} (hn : 0 ≤ n) :
    PageInv pg { d with eolCount := n } :=
  { h with
    mode := { h.mode with
      eolGe := neg_one_le_of_nonneg hn
      t6 := fun hm => ⟨(h.mode.t6 hm).1, hn⟩
      completeEnd := fun ht => absurd (hc.symm.trans ht) Bool.false_ne_true } }

theorem t6RowEndCheck_rowStep {pg : RxPage} {d t : Dec} (h : d.t6RowEndCheck pg = .next t) : RowStep pg d t := by
  rcases t6RowEndCheck_eq_next h with rfl | ⟨-, -, u, hu, rfl⟩
  · exact .refl pg t
  · obtain ⟨hout, hkeeps, -⟩ := commitRow_keeps hu
    exact ⟨hout, fun hc hinv =>
      (hkeeps hinv).withEolCount ((congrArg DecOutside.complete hout).trans hc) le_rfl⟩

theorem hpairAdvance_rowStep {pg : RxPage} {d t : Dec} (h : d.hpairAdvance pg = .next t) : RowStep pg d t := by
  rcases hpairAdvance_eq_next h with ⟨-, rfl⟩ | ⟨hp, rfl⟩ | ⟨-, h⟩
  · exact .refl pg t
  · exact ⟨rfl, fun _ hinv =>
      { hinv with mode := { hinv.mode with pairIn2d := fun _ => hinv.mode.pairIn2d (by simp [hp]) } }⟩
  · refine (t6RowEndCheck_rowStep h).after ⟨rfl, fun _ hinv => ?_⟩
    exact { hinv with
      row := { hinv.row with a0Ge := neg_one_le_of_nonneg (Int.natCast_nonneg _) }
      mode := { hinv.mode with pairIn2d := fun hp => absurd rfl hp } }

/-- A run appended writes the RunArray and its overflow flag only (R215, R216). -/
theorem appendRun_frame {cap v : Nat} {d t : Dec} (h : d.appendRun cap v = .next t) :
    ∃ runs full, t = { d with curRuns := runs, overflow := full } := by
  obtain ⟨-, ⟨-, rfl⟩ | ⟨-, -, rfl⟩⟩ := appendRun_eq_next h <;> exact ⟨_, _, rfl⟩

theorem terminate_rowStep {pg : RxPage} {n : Nat} {d t : Dec} (h : d.terminate n pg = .next t) : RowStep pg d t := by
  obtain ⟨u, hu, h⟩ := terminate_eq_next h
  have hrow (hinv : PageInv pg d) : RowOk pg d.a0 u.curRuns 0 := appendRun_rowOk hu hinv.row hinv.row.a0Ge
  obtain ⟨runs, full, rfl⟩ := appendRun_frame hu
  rcases h with ⟨-, rfl⟩ | ⟨-, h⟩
  · exact ⟨rfl, fun _ hinv => { hinv with row := hrow hinv }⟩
  · exact (hpairAdvance_rowStep h).after ⟨rfl, fun _ hinv => { hinv with row := hrow hinv }⟩

theorem addRun_rowStep {pg : RxPage} {n : Nat} {d t : Dec} (h : d.addRun n = .next t) : RowStep pg d t := by
  obtain ⟨hlim, rfl⟩ := addRun_eq_next h
  exact ⟨rfl, fun _ hinv => { hinv with row := { hinv.row with total := by rwa [← Nat.add_assoc] } }⟩

theorem invalidMode_rowStep (pg : RxPage) (d : Dec) : RowStep pg d d.invalidMode := ⟨rfl, fun _ hinv => { hinv with }⟩

theorem pass_rowStep {pg : RxPage} {d t : Dec} (h : d.pass pg = .next t) : RowStep pg d t := by
  rcases pass_eq_next h with ⟨-, rfl⟩ | ⟨-, hlim, h⟩
  · exact invalidMode_rowStep pg d
  · refine (t6RowEndCheck_rowStep h).after ⟨rfl, fun _ hinv => ?_⟩
    exact { hinv with row := ⟨neg_one_le_of_nonneg (Int.natCast_nonneg _), by rwa [← Nat.add_assoc], hinv.row.room⟩ }

theorem vertical_rowStep {pg : RxPage} {off : Int} {d t : Dec} (h : d.vertical off pg = .next t) : RowStep pg d t := by
  rcases vertical_eq_next h with ⟨-, rfl⟩ | ⟨hvalid, u, hu, h⟩
  · exact invalidMode_rowStep pg d
  · have ha0 : -1 ≤ (d.b1 pg : Int) + off := neg_one_le_of_nonneg ((le_max_right d.a0 0).trans hvalid)
    have hrow (hinv : PageInv pg d) : RowOk pg (d.b1 pg + off) u.curRuns 0 := appendRun_rowOk hu hinv.row ha0
    obtain ⟨runs, full, rfl⟩ := appendRun_frame hu
    exact (t6RowEndCheck_rowStep h).after ⟨rfl, fun _ hinv => { hinv with row := hrow hinv }⟩

/-- The row's end at an EOL (R207, R208): it counts from 0 on, and leaves no pair in the page. -/
theorem eolRow_keeps {pg : RxPage} {d t : Dec} (h : d.eolRow pg = .next t) :
    t.outside = d.outside ∧ (d.complete = false → PageInv pg d →
      PageInv pg t ∧ 0 ≤ t.eolCount ∧ (t.hpair = .none ∨ t.nomem = true)) := by
  rcases eolRow_eq_next h with ⟨-, rfl⟩ | ⟨-, -, u, hu, rfl⟩ | ⟨hne, -, rfl⟩
  · exact ⟨rfl, fun hc hinv => ⟨(hinv.withEolCount hc le_rfl).rowReset, le_rfl, .inl rfl⟩⟩
  · obtain ⟨hout, hkeeps, hpair⟩ := commitRow_keeps hu
    exact ⟨hout, fun hc hinv =>
      ⟨(hkeeps hinv).withEolCount ((congrArg DecOutside.complete hout).trans hc) Int.one_nonneg, Int.one_nonneg, hpair⟩⟩
  · refine ⟨rfl, fun hc hinv => ?_⟩
    have hcount : 0 ≤ d.eolCount + 1 := by
      have := hinv.mode.eolGe
      omega
    exact ⟨(hinv.withEolCount hc hcount).rowReset, hcount, .inl rfl⟩

end Sys2Proof.Machine
end

section
/-! PROOFS. What a decision of the decoder keeps in a page: a code word in the context where it is read, a bit that is none,
and the loops of decisions (R200 to R207, R217 to R235, R241). -/

namespace Sys2Proof.Machine

/-! ## What a code word does -/

/-- What a code word that answers has done to the decoder (R213 to R235). -/
inductive CodeStep (pg : RxPage) (d : Dec) : Instr → Dec → Prop where
  | terminating {i : Instr} {w n : Nat} {t : Dec} (hw : w ≤ 13) (h : (d.matched w).terminate n pg = .next t) :
    CodeStep pg d i t
  | makeup {i : Instr} {w n : Nat} {t : Dec} (hw : w ≤ 13) (h : (d.matched w).addRun n = .next t) : CodeStep pg d i t
  | vertical {i : Instr} {w : Nat} {off : Int} {t : Dec} (hw : w ≤ 13)
    (h : (d.matchedMode w).vertical off pg = .next t) : CodeStep pg d i t
  | pass {t : Dec} (h : (d.matchedMode 4).pass pg = .next t) : CodeStep pg d .pass t
  | horiz : CodeStep pg d .horiz { d.matchedMode 3 with hpair := .first }
  | ext2d : CodeStep pg d .ext2d ((d.matchedMode 7).log .ext)
  | null2d : CodeStep pg d .null2d (d.dropUnmatched .null)
  | eol {t : Dec} (h : d.eol (if pg.mode = .t42d then some (d.view.getLsbD 12) else none) pg = .next t) :
    CodeStep pg d .eol t
  | eol1 {t : Dec} (h : d.eol (some true) pg = .next t) : CodeStep pg d .eol1 t
  | eol0 {t : Dec} (h : d.eol (some false) pg = .next t) : CodeStep pg d .eol0 t

/-- A code word read on the row of a state's page. -/
def ReadsCode (i : Instr) (s t : State) : Prop := ∃ pg d, rxPage s = .next pg ∧ t = s.withDec d ∧ CodeStep pg s.dec i d

theorem readsCode_of_onRow {i : Instr} {f : RxPage → Dec → Res Dec} {s t : State}
    (hf : ∀ pg d u, f pg d = .next u → CodeStep pg d i u) (h : onRow s f = .next t) : ReadsCode i s t := by
  obtain ⟨pg, d, hp, hd, rfl⟩ := onRow_eq_next h
  exact ⟨pg, d, hp, rfl, hf pg s.dec d hd⟩

theorem readsCode_of_next {i : Instr} {f : RxPage → Dec → Dec} {s t : State} (hf : ∀ pg d, CodeStep pg d i (f pg d))
    (h : onRow s (fun pg d => .next (f pg d)) = .next t) : ReadsCode i s t :=
  readsCode_of_onRow (fun pg d _ hd => Host.Outcome.next.inj hd ▸ hf pg d) h

theorem readsCode_of_terminating {i : Instr} {w n : Nat} {s t : State} (h : terminatingCode w n s = .next t)
    (hw : w ≤ 13) : ReadsCode i s t := readsCode_of_onRow (fun _ _ _ => .terminating hw) h

theorem readsCode_of_makeup {i : Instr} {w n : Nat} {s t : State} (h : makeupCode w n s = .next t) (hw : w ≤ 13) :
    ReadsCode i s t := readsCode_of_onRow (fun _ _ _ => .makeup hw) h

theorem readsCode_of_vertical {i : Instr} {w : Nat} {off : Int} {s t : State} (h : verticalCode w off s = .next t)
    (hw : w ≤ 13) : ReadsCode i s t := readsCode_of_onRow (fun _ _ _ => .vertical hw) h

/-- Every code word is one of them: the mode codes, the EOL forms, the make-up codes, and else a terminating code. -/
theorem exec_readsCode {i : Instr} {s t : State} (hi : isCodeWord i = true) (h : exec i s = .next t) :
    ReadsCode i s t := by
  cases i with
  | pass => exact readsCode_of_onRow (fun _ _ _ => .pass) h
  | horiz => exact readsCode_of_next (f := fun _ d => { d.matchedMode 3 with hpair := .first }) (fun _ _ => .horiz) h
  | ext2d => exact readsCode_of_next (f := fun _ d => (d.matchedMode 7).log .ext) (fun _ _ => .ext2d) h
  | null2d => exact readsCode_of_next (f := fun _ d => d.dropUnmatched .null) (fun _ _ => .null2d) h
  | eol => exact readsCode_of_onRow (fun _ _ _ => .eol) h
  | eol1 => exact readsCode_of_onRow (fun _ _ _ => .eol1) h
  | eol0 => exact readsCode_of_onRow (fun _ _ _ => .eol0) h
  | v0 | vr1 | vr2 | vr3 | vl1 | vl2 | vl3 => exact readsCode_of_vertical h (Nat.le_of_ble_eq_true rfl)
  | wm64 | wm128 | wm192 | wm256 | wm320 | wm384 | wm448 | wm512 | wm576 | wm640 | wm704 | wm768 | wm832 | wm896 |
    wm960 | wm1024 | wm1088 | wm1152 | wm1216 | wm1280 | wm1344 | wm1408 | wm1472 | wm1536 | wm1600 | wm1664 |
    wm1728 | bm64 | bm128 | bm192 | bm256 | bm320 | bm384 | bm448 | bm512 | bm576 | bm640 | bm704 | bm768 | bm832 |
    bm896 | bm960 | bm1024 | bm1088 | bm1152 | bm1216 | bm1280 | bm1344 | bm1408 | bm1472 | bm1536 | bm1600 | bm1664
    | bm1728 | xm1792 | xm1856 | xm1920 | xm1984 | xm2048 | xm2112 | xm2176 | xm2240 | xm2304 | xm2368 | xm2432 |
    xm2496 | xm2560 =>
    exact readsCode_of_makeup h (Nat.le_of_ble_eq_true rfl)
  | _ =>
    first
      | exact Bool.noConfusion hi
      | exact readsCode_of_terminating h (Nat.le_of_ble_eq_true rfl)

/-! ## What every decision does to the window and the setup -/

/-- A decision consumes a bit or more, and leaves the setup alone (R204). -/
structure Consumes (d t : Dec) : Prop where
  setup : t.setup = d.setup
  window : t.winCount ≤ d.winCount - 1

/-- Row operations after a consumed bit. -/
theorem RowStep.consumes {pg : RxPage} {d u t : Dec} (h : RowStep pg u t) (hu : Consumes d u) : Consumes d t where
  setup := (congrArg DecOutside.setup h.outside).trans hu.setup
  window := (congrArg DecOutside.winCount h.outside).le.trans hu.window

theorem eol_consumes {pg : RxPage} {tag : Option Bool} {d t : Dec} (h : d.eol tag pg = .next t) : Consumes d t := by
  obtain ⟨u, hu, rfl⟩ := eol_eq_next h
  obtain ⟨hout, -⟩ := eolRow_keeps hu
  refine ⟨(congrArg DecOutside.setup hout :), (congrArg DecOutside.winCount hout).le.trans ?_⟩
  have hbits : 1 ≤ eolBits tag := by cases tag <;> exact Nat.le_of_ble_eq_true rfl
  exact Nat.sub_le_sub_left hbits _

theorem CodeStep.consumes {pg : RxPage} {d t : Dec} {i : Instr} (h : CodeStep pg d i t) : Consumes d t := by
  cases h with
  | terminating _ h => exact (terminate_rowStep h).consumes ⟨rfl, le_rfl⟩
  | makeup _ h => exact (addRun_rowStep (pg := pg) h).consumes ⟨rfl, le_rfl⟩
  | vertical _ h => exact (vertical_rowStep h).consumes ⟨rfl, le_rfl⟩
  | pass h => exact (pass_rowStep h).consumes ⟨rfl, le_rfl⟩
  | horiz | ext2d | null2d => exact ⟨rfl, le_rfl⟩
  | eol h | eol1 h | eol0 h => exact eol_consumes h

/-! ## What a code word keeps in its context -/

/-- What the context of a code word says of the page (R91, R204): Horizontal is read in a 2D row, a tagged EOL in `T4_2D`. -/
def CodeAllowed (pg : RxPage) (d : Dec) : Instr → Prop
  | .horiz => d.rowIs2d = true
  | .eol1 => pg.mode = .t42d
  | .eol0 => pg.mode = .t42d
  | _ => True

section
variable {pg : RxPage} {d : Dec}

theorem PageInv.matched (h : PageInv pg d) {w : Nat} (hw : w ≤ 13) : PageInv pg (d.matched w) :=
  { h with window := h.window.drop 1 (Nat.sub_le_of_le_add hw) }

theorem PageInv.matchedMode (h : PageInv pg d) {w : Nat} (hw : w ≤ 13) : PageInv pg (d.matchedMode w) :=
  { h.matched hw with }

theorem PageInv.dropUnmatched (h : PageInv pg d) (ev : TraceEvent) : PageInv pg (d.dropUnmatched ev) :=
  { h with window := h.window.drop 1 h.window.skipLe }

theorem PageInv.skipBit (h : PageInv pg d) : PageInv pg d.skipBit :=
  { h with window := h.window.drop 1 ((Nat.sub_le ..).trans h.window.skipLe) }

theorem PageInv.huntBit (h : PageInv pg d) : PageInv pg d.huntBit :=
  { h with window := h.window.drop 1 h.window.skipLe }

/-- The rest of an EOL (R207, R209, R210): a tag is read in `T4_2D` only, and the page ends at its threshold. -/
theorem PageInv.eolFinish {tag : Option Bool} (h : PageInv pg d) (hc : d.complete = false) (hcount : 0 ≤ d.eolCount)
    (hpair : d.hpair = .none ∨ d.nomem = true) (htag : tag.isSome = true → pg.mode = .t42d) :
    PageInv pg (d.eolFinish tag pg) := by
  have huntagged (hm : pg.mode ≠ .t42d) : (d.eolFinish tag pg).rowIs2d = d.rowIs2d := by
    cases tag with
    | none => rfl
    | some b => exact absurd (htag rfl) hm
  exact { h with
    mode := {
      eolGe := h.mode.eolGe
      t41d := fun hm => huntagged (by simp [hm]) ▸ h.mode.t41d hm
      t6 := fun hm => ⟨(huntagged (by simp [hm])).trans (h.mode.t6 hm).1, hcount⟩
      pairIn2d := fun hne => .inr (hpair.resolve_left hne)
      completeEnd := fun ht => by simpa [Dec.eolFinish, Dec.log, hc] using ht } }

theorem PageInv.eol {tag : Option Bool} {t : Dec} (hinv : PageInv pg d) (hc : d.complete = false)
    (htag : tag.isSome = true → pg.mode = .t42d) (h : d.eol tag pg = .next t) : PageInv pg t := by
  obtain ⟨u, hu, rfl⟩ := eol_eq_next h
  obtain ⟨hout, hkeeps⟩ := eolRow_keeps hu
  obtain ⟨hinv, hcount, hpair⟩ := hkeeps hc { hinv with window := hinv.window.drop _ (Nat.zero_le _) }
  exact hinv.eolFinish ((congrArg DecOutside.complete hout).trans hc) hcount hpair htag

/-- A code word in its context keeps the facts of a page that is not complete. -/
theorem CodeStep.pageInv {t : Dec} {i : Instr} (h : CodeStep pg d i t) (hi : CodeAllowed pg d i) (hc : d.complete = false)
    (hinv : PageInv pg d) : PageInv pg t := by
  cases h with
  | terminating hw h => exact (terminate_rowStep h).keeps hc (hinv.matched hw)
  | makeup hw h => exact (addRun_rowStep h).keeps hc (hinv.matched hw)
  | vertical hw h => exact (vertical_rowStep h).keeps hc (hinv.matchedMode hw)
  | pass h => exact (pass_rowStep h).keeps hc (hinv.matchedMode (by decide))
  | horiz =>
    have hmatched := hinv.matchedMode (w := 3) (by decide)
    exact { hmatched with mode := { hmatched.mode with pairIn2d := fun _ => .inl hi } }
  | ext2d => exact { hinv.matchedMode (w := 7) (by decide) with }
  | null2d => exact hinv.dropUnmatched .null
  | eol h => exact hinv.eol hc (fun htag => by_contra fun hm => by simp [hm] at htag) h
  | eol1 h => exact hinv.eol hc (fun _ => hi) h
  | eol0 h => exact hinv.eol hc (fun _ => hi) h

end

/-! ## The context of a decision -/

/-- What is decoded in a context stands in it (R91). -/
theorem mem_wordsOf_of_decodeCode {c : Context} {win : BitVec 13} {i : Instr} (h : decodeCode c win = .ok i) :
    i ∈ wordsOf c := by
  cases c with
  | eol tagged =>
    simp only [decodeCode] at h
    split at h
    · cases h
      cases tagged with
      | false => simp [wordsOf]
      | true => cases win[12] <;> simp [wordsOf]
    · cases h
  | mode2d =>
    simp only [decodeCode] at h
    split at h
    · rename_i r hr
      cases h
      exact List.mem_map_of_mem (lookupRow_mem hr).1
    · cases h
  | run color =>
    simp only [decodeCode] at h
    split at h
    · rename_i r hr
      cases h
      exact List.mem_map_of_mem (lookupRow_mem hr).1
    · cases h

/-- A decided code word stands in the EOL context of the page's mode, or in the context of the row (R204). -/
theorem mem_wordsOf_of_decision {d : Dec} {i : Instr} (h : d.decision = .code i) :
    i ∈ wordsOf (.eol d.tagged) ∨ i ∈ wordsOf d.context := by
  unfold Dec.decision at h
  split at h
  · split at h <;> cases h
    exact .inl (mem_wordsOf_of_decodeCode ‹_›)
  · split at h
    · cases h
    · split at h
      · cases h
      · split at h <;> cases h
        exact .inr (mem_wordsOf_of_decodeCode ‹_›)

theorem horiz_notMem_run (c : Color) : Instr.horiz ∉ wordsOf (.run c) := by cases c <;> decide

theorem eolTag_notMem_run (c : Color) : Instr.eol1 ∉ wordsOf (.run c) ∧ Instr.eol0 ∉ wordsOf (.run c) := by
  cases c <;> decide

/-- Horizontal is decided in a 2D row only (R91, R204). -/
theorem rowIs2d_of_decision_horiz {d : Dec} (h : d.decision = .code .horiz) : d.rowIs2d = true := by
  rcases mem_wordsOf_of_decision h with h | h
  · cases hm : d.tagged <;> simp [hm, wordsOf] at h
  · unfold Dec.context at h
    split at h
    · rename_i hc
      simp only [Bool.and_eq_true] at hc
      exact hc.1
    · exact absurd h (horiz_notMem_run _)

/-- An EOL with its tag is decided in `T4_2D` only (R92, R204). -/
theorem tagged_of_decision_eol {d : Dec} {i : Instr} (hi : i = .eol1 ∨ i = .eol0) (h : d.decision = .code i) :
    d.tagged = true := by
  rcases mem_wordsOf_of_decision h with h | h
  · cases hm : d.tagged with
    | true => rfl
    | false => rcases hi with rfl | rfl <;> simp [hm, wordsOf] at h
  · unfold Dec.context at h
    split at h
    · rcases hi with rfl | rfl <;> exact absurd h (by decide)
    · obtain ⟨h1, h0⟩ := eolTag_notMem_run d.color
      rcases hi with rfl | rfl
      · exact absurd h h1
      · exact absurd h h0

theorem codeAllowed_of_decision {s : State} {pg : RxPage} {i : Instr} (hp : rxPage s = .next pg)
    (h : s.dec.decision = .code i) : CodeAllowed pg s.dec i := by
  obtain ⟨-, m, w, hmode, -, rfl⟩ := rxPage_eq_next hp
  have htag (ht : s.dec.tagged = true) : m = .t42d := by
    rw [Dec.tagged, hmode] at ht
    simpa using ht
  cases i with
  | horiz => exact rowIs2d_of_decision_horiz h
  | eol1 => exact htag (tagged_of_decision_eol (.inl rfl) h)
  | eol0 => exact htag (tagged_of_decision_eol (.inr rfl) h)
  | _ => trivial

/-! ## One decision -/

/-- A decision that answers (R204): it consumes a bit, and keeps the facts of a page that is not complete. -/
theorem decide1_keeps {s t : State} (h : decide1 s = .next t) :
    Consumes s.dec t.dec ∧
      ∀ pg, rxPage s = .next pg → s.dec.complete = false → PageInv pg s.dec → PageInv pg t.dec := by
  rw [decide1_eq] at h
  split at h
  · rename_i i hi
    obtain ⟨pg, d, hp, rfl, hstep⟩ := exec_readsCode (isCodeWord_of_decision hi) h
    refine ⟨hstep.consumes, fun pg' hp' hc hinv => ?_⟩
    obtain rfl : pg = pg' := Host.Outcome.next.inj (hp.symm.trans hp')
    exact hstep.pageInv (codeAllowed_of_decision hp hi) hc hinv
  · obtain ⟨pg, d, -, hd, rfl⟩ := onRow_eq_next h
    cases hd
    exact ⟨⟨rfl, le_rfl⟩, fun _ _ _ hinv => hinv.skipBit⟩
  · obtain ⟨pg, d, -, hd, rfl⟩ := onRow_eq_next h
    cases hd
    exact ⟨⟨rfl, le_rfl⟩, fun _ _ _ hinv => hinv.huntBit⟩
  · obtain ⟨pg, d, -, hd, rfl⟩ := onRow_eq_next h
    cases hd
    exact ⟨⟨rfl, le_rfl⟩, fun _ _ _ hinv => hinv.dropUnmatched .bad1d⟩

/-! ## Sequences of decisions -/

/-- One state comes from another by operations of a receive page: they write neither the parameters nor the setup, and keep a
fact of the page. -/
structure RxRuns (I : RxPage → Dec → Prop) (s t : State) : Prop where
  par : t.par = s.par
  setup : t.dec.setup = s.dec.setup
  keeps : ∀ pg, rxPage s = .next pg → I pg s.dec → I pg t.dec

/-- The page is read off the parameters and the setup (R24). -/
theorem rxPage_congr {s t : State} (hpar : t.par = s.par) (hsetup : t.dec.setup = s.dec.setup) : rxPage t = rxPage s := by
  obtain ⟨hlife, -, hpcfg, -⟩ := DecSetup.mk.inj hsetup
  simp only [rxPage, hpar, hlife, hpcfg]

section
variable {I : RxPage → Dec → Prop}

theorem RxRuns.refl (s : State) : RxRuns I s s := ⟨rfl, rfl, fun _ _ => id⟩

theorem RxRuns.trans {s t u : State} (h : RxRuns I s t) (k : RxRuns I t u) : RxRuns I s u where
  par := k.par.trans h.par
  setup := k.setup.trans h.setup
  keeps pg hp hI := k.keeps pg ((rxPage_congr h.par h.setup).trans hp) (h.keeps pg hp hI)

end

theorem decide1_runs {s t : State} (hc : s.dec.complete = false) (h : decide1 s = .next t) : RxRuns PageInv s t where
  par := (decide1_decOnly s t h).1
  setup := (decide1_keeps h).1.setup
  keeps pg hp := (decide1_keeps h).2 pg hp hc

theorem complete_of_ready {d : Dec} (h : d.ready = true) : d.complete = false := by
  simp only [Dec.ready, Bool.and_eq_true, Bool.not_eq_true'] at h
  exact h.1.2

theorem complete_of_drains {d : Dec} (h : d.drains = true) : d.complete = false := by
  simp only [Dec.drains, Bool.and_eq_true, Bool.not_eq_true'] at h
  exact h.1.1.2

theorem decisionLoop_runs (fuel : Nat) {s t : State} (h : decisionLoop fuel s = .next t) : RxRuns PageInv s t := by
  induction fuel generalizing s with
  | zero =>
    cases h
    exact .refl _
  | succ fuel ih =>
    unfold decisionLoop at h
    split at h
    · rename_i hready
      obtain ⟨u, hu, h⟩ := andThen_eq_next h
      exact (decide1_runs (complete_of_ready hready) hu).trans (ih h)
    · cases h
      exact .refl _

theorem drainLoop_runs (fuel : Nat) {s t : State} (h : drainLoop fuel s = .next t) : RxRuns PageInv s t := by
  induction fuel generalizing s with
  | zero =>
    cases h
    exact .refl _
  | succ fuel ih =>
    unfold drainLoop at h
    split at h
    · rename_i hdrains
      obtain ⟨u, hu, h⟩ := andThen_eq_next h
      exact (decide1_runs (complete_of_drains hdrains) hu).trans (ih h)
    · cases h
      exact .refl _

/-- As many decisions as the window holds bits leave none due (R201, log 24). -/
theorem decisionLoop_ready (fuel : Nat) {s t : State} (hfuel : s.dec.winCount ≤ fuel)
    (h : decisionLoop fuel s = .next t) : t.dec.ready = false := by
  induction fuel generalizing s with
  | zero =>
    cases h
    simp [Dec.ready, Config.winMin, Nat.le_zero.mp hfuel]
  | succ fuel ih =>
    unfold decisionLoop at h
    split at h
    · obtain ⟨u, hu, h⟩ := andThen_eq_next h
      exact ih ((decide1_keeps hu).1.window.trans (Nat.sub_le_of_le_add hfuel)) h
    · rename_i hready
      cases h
      exact Bool.eq_false_of_not_eq_true hready

/-! ## Received bits -/

/-- What holds of a decoder between two received bits: the facts of the page, and no decision is due (R201). -/
structure BitInv (pg : RxPage) (d : Dec) : Prop where
  page : PageInv pg d
  waits : d.ready = false

theorem PageInv.append {pg : RxPage} {d : Dec} (h : PageInv pg d) (hcount : d.winCount ≤ 12)
    (hbits : d.pageBits + 1 < Config.wordLimit) (b : Bool) : PageInv pg (d.append b) :=
  { h with window := h.window.append hcount b, bits := hbits }

/-- A received bit (R200 to R203). -/
theorem decodeBit_runs {b : Bool} {s t : State} (h : decodeBit b s = .next t) : RxRuns BitInv s t := by
  unfold decodeBit at h
  split at h
  · cases h
    exact .refl _
  rename_i hopen
  split at h
  · rename_i hfit
    have hloop := decisionLoop_runs _ h
    have hready := decisionLoop_ready _ (Nat.le_refl (s.dec.append b).winCount) h
    refine ⟨hloop.par, hloop.setup, fun pg hp hinv => ⟨?_, hready⟩⟩
    have hcount : s.dec.winCount ≤ 12 := by
      obtain ⟨hcomplete, hnomem⟩ : s.dec.complete = false ∧ s.dec.nomem = false := by simpa using hopen
      have hwaits : ¬ Config.winMin ≤ s.dec.winCount := by simpa [Dec.ready, hcomplete, hnomem] using hinv.waits
      exact Nat.le_of_lt_succ (Nat.not_le.mp hwaits)
    exact hloop.keeps pg hp (hinv.page.append hcount (of_decide_eq_true hfit) b)
  · cases h

theorem decodeBits_runs {bits : List Bool} {s t : State} (h : decodeBits bits s = .next t) : RxRuns BitInv s t := by
  induction bits generalizing s with
  | nil =>
    cases h
    exact .refl _
  | cons b bits ih =>
    obtain ⟨u, hu, h⟩ := andThen_eq_next h
    exact (decodeBit_runs hu).trans (ih h)

end Sys2Proof.Machine
end

section
/-! PROOFS. Every step keeps the decoder's invariant: a due decision, a PUT command and RX_END_PAGE through the facts of a
page, the lifecycle commands and setters one by one (R40 to R49, R71, R81, R210, R216, R260, R276). -/

namespace Sys2Proof.Machine

/-! ## The invariant in a page -/

/-- A sound decoder in a page has the facts of the page. -/
theorem DecInv.pageInv {s : State} {pg : RxPage} (hpar : ParamsOk s.par) (h : DecInv s.par s.dec)
    (hp : rxPage s = .next pg) : PageInv pg s.dec := by
  obtain ⟨hlife, m, w, hmode, hwidth, rfl⟩ := rxPage_eq_next hp
  exact {
    grow := hpar.imgGrow
    window := ⟨h.winCount, h.winClean, h.skip⟩
    row := ⟨h.a0, h.rowTotal, h.runsLen hlife w hwidth⟩
    image := ⟨h.imgWf, h.rowsCap, h.imgListed w hwidth, h.pageRef hlife w hwidth, h.badRows hlife, h.rowsFit⟩
    mode := {
      eolGe := h.eolCount
      t41d := fun hm => h.t41dRow hlife (hm ▸ hmode)
      t6 := fun hm => h.t6Row hlife (hm ▸ hmode)
      pairIn2d := h.pair hlife
      completeEnd := fun hc => h.completeEnd hlife hc m hmode }
    bits := h.pageBitsFit }

/-- A decoder of the same setup with the facts of the page is sound. -/
theorem DecInv.ofPageInv {s : State} {pg : RxPage} {d : Dec} (h : DecInv s.par s.dec) (hp : rxPage s = .next pg)
    (hsetup : d.setup = s.dec.setup) (hinv : PageInv pg d) : DecInv s.par d := by
  obtain ⟨hlife, m, w, hmode, hwidth, rfl⟩ := rxPage_eq_next hp
  obtain ⟨-, hcfg, hpcfg, -⟩ := DecSetup.mk.inj hsetup
  have hm {x : Mode} (hx : d.pcfg.mode = some x) : m = x := Option.some.inj (hmode.symm.trans (hpcfg ▸ hx))
  have hw {x : Word} (hx : d.pcfg.width = some x) : w = x := Option.some.inj (hwidth.symm.trans (hpcfg ▸ hx))
  exact {
    imgWf := hinv.image.wf
    cfgWidth := hcfg ▸ h.cfgWidth
    pageWidth := hpcfg ▸ h.pageWidth
    pageCfg := fun _ => by simp [hpcfg, hmode, hwidth]
    rowsCap := hinv.image.capGe
    imgListed := fun x hx => hw hx ▸ hinv.image.listed
    pageRef := fun _ x hx => hw hx ▸ hinv.image.refSum
    winCount := hinv.window.countLe
    winClean := hinv.window.clean
    skip := hinv.window.skipLe
    eolCount := hinv.mode.eolGe
    a0 := hinv.row.a0Ge
    rowTotal := hinv.row.total
    runsLen := fun _ x hx => hw hx ▸ hinv.row.room
    t41dRow := fun _ hx => hinv.mode.t41d (hm hx)
    t6Row := fun _ hx => hinv.mode.t6 (hm hx)
    pair := fun _ => hinv.mode.pairIn2d
    completeEnd := fun _ hc x hx => hm hx ▸ hinv.mode.completeEnd hc
    badRows := fun _ => hinv.image.badRows
    rowsFit := hinv.image.fit
    pageBitsFit := hinv.bits }

/-- A decoder that runs in a page stays sound. -/
theorem DecInv.runs {s t : State} {pg : RxPage} (hpar : ParamsOk s.par) (h : DecInv s.par s.dec) (hp : rxPage s = .next pg)
    (hruns : RxRuns PageInv s t) : DecInv s.par t.dec :=
  h.ofPageInv hp hruns.setup (hruns.keeps pg hp (h.pageInv hpar hp))

/-! ## Page commands -/

/-- The partial row at the end of the input (R242). -/
theorem commitPartial_runs {s t : State} (h : commitPartial s = .next t) : RxRuns PageInv s t := by
  unfold commitPartial at h
  split at h
  · obtain ⟨pg, d, hp, hd, rfl⟩ := onRow_eq_next h
    obtain ⟨hout, hkeeps, -⟩ := commitRow_keeps hd
    refine ⟨rfl, congrArg DecOutside.setup hout, fun pg' hp' hinv => ?_⟩
    obtain rfl : pg = pg' := Host.Outcome.next.inj (hp.symm.trans hp')
    exact hkeeps hinv
  · cases h
    exact .refl _

/-- A decoder that leaves its page has no facts of a page left to keep (R307). -/
theorem DecInv.leavePage {p : Params} {d : Dec} (h : DecInv p d) (page : PageStats) (sink : List SinkCall) (st : Stats) :
    DecInv p { d with page := page, sink := sink, stats := st, life := .idle } :=
  { h with
    pageCfg := nofun
    pageRef := nofun
    runsLen := nofun
    t41dRow := nofun
    t6Row := nofun
    pair := nofun
    completeEnd := nofun
    badRows := nofun }

theorem execRxEndPage_decInv {s t : State} (hpar : ParamsOk s.par) (hinv : DecInv s.par s.dec)
    (h : execRxEndPage s = .next t) : DecInv s.par t.dec := by
  obtain ⟨pg, hp, h⟩ := andThen_eq_next h
  obtain ⟨u, hu, h⟩ := andThen_eq_next h
  obtain ⟨v, hv, h⟩ := andThen_eq_next h
  obtain ⟨st, -, h⟩ := andThen_eq_next h
  have hruns : RxRuns PageInv s v := (drainLoop_runs _ hu).trans (commitPartial_runs hv)
  cases h
  exact (hinv.runs hpar hp hruns).leavePage _ _ st

/-- A PUT command where no decision is due (R201, R308 to R310). -/
theorem putBits_decInv {bits : List Bool} {s t : State} (hpar : ParamsOk s.par) (hinv : DecInv s.par s.dec)
    (hdue : decisionDue s = false) (h : putBits bits s = .next t) : DecInv s.par t.dec := by
  obtain ⟨pg, hp, h⟩ := andThen_eq_next h
  obtain ⟨u, hu, h⟩ := andThen_eq_next h
  cases h
  have hwaits : s.dec.ready = false := by
    obtain ⟨hlife, -⟩ := rxPage_eq_next hp
    simpa [decisionDue, hlife] using hdue
  have hruns := decodeBits_runs hu
  exact hinv.ofPageInv hp hruns.setup (hruns.keeps pg hp ⟨{ hinv.pageInv hpar hp with }, hwaits⟩).page

/-! ## Lifecycle commands and setters -/

section
variable {p : Params} {d : Dec}

theorem DecInv.init (h : DecInv p d) : DecInv p d.init :=
  { h with
    imgWf := Memory.wf_nil
    cfgWidth := widthOk_none p
    pageWidth := widthOk_none p
    rowsCap := Nat.le_refl 0
    imgListed := nofun
    pageCfg := nofun
    pageRef := nofun
    runsLen := nofun
    t41dRow := nofun
    t6Row := nofun
    pair := nofun
    completeEnd := nofun
    badRows := nofun
    rowsFit := Nat.two_pow_pos 32 }

theorem DecInv.release (h : DecInv p d) : DecInv p d.release := by
  unfold Dec.release
  split
  · exact h
  · exact { h with
      imgWf := Memory.wf_nil
      rowsCap := Nat.le_refl 0
      imgListed := fun w _ i hi => absurd hi (by simp)
      rowTotal := by
        have := h.rowTotal
        simp only [Dec.rowLen, List.sum_nil] at this ⊢
        omega
      pageCfg := nofun
      pageRef := nofun
      runsLen := nofun
      t41dRow := nofun
      t6Row := nofun
      pair := nofun
      completeEnd := nofun
      badRows := nofun
      rowsFit := Nat.two_pow_pos 32 }

/-- A setter stages a width that R303 admits. -/
theorem DecInv.withCfg {c : RxCfg} (h : DecInv p d) (hw : WidthOk p c.width) : DecInv p { d with cfg := c } :=
  { h with cfgWidth := hw }

theorem DecInv.withAlloc (h : DecInv p d) (a : Alloc) : DecInv p { d with alloc := a } :=
  { h with }

/-- An opened page has the staged configuration, an empty row, an empty image and a white reference row (R306). -/
theorem DecInv.startPage (hpar : ParamsOk p) (h : DecInv p d) (hcfg : d.cfg.startable = true) :
    DecInv p d.startPage := by
  simp only [RxCfg.startable, Bool.and_eq_true] at hcfg
  have hmargin := hpar.runMargin
  exact {
    imgWf := h.imgWf
    cfgWidth := h.cfgWidth
    pageWidth := h.cfgWidth
    pageCfg := fun _ => hcfg
    rowsCap := Nat.zero_le _
    imgListed := fun w _ i hi => absurd hi (by simp [Dec.startPage])
    pageRef := fun _ w hw => by
      have hw : d.cfg.width = some w := hw
      simp [Dec.startPage, hw]
    winCount := Nat.zero_le _
    winClean := Nat.one_pos
    skip := Nat.zero_le _
    eolCount := by
      simp only [Dec.startPage, Dec.rowReset_eolCount]
      split <;> decide
    a0 := le_rfl
    rowTotal := Nat.two_pow_pos 31
    runsLen := fun _ w _ => by
      simp only [Dec.startPage, Dec.rowReset_curRuns, List.length_nil]
      omega
    t41dRow := fun _ hm => by
      have hm : d.cfg.mode = some .t41d := hm
      simp [Dec.startPage, hm]
    t6Row := fun _ hm => by
      have hm : d.cfg.mode = some .t6 := hm
      simp [Dec.startPage, hm]
    pair := fun _ hp => absurd rfl hp
    completeEnd := fun _ hc => nomatch hc
    badRows := fun _ => ⟨le_rfl, le_rfl⟩
    rowsFit := Nat.two_pow_pos 32
    pageBitsFit := Nat.two_pow_pos 32 }

end

/-! ## Every command and every step -/

theorem execRxStartPage_decInv {s t : State} (hpar : ParamsOk s.par) (hinv : DecInv s.par s.dec)
    (h : execRxStartPage s = .next t) : DecInv s.par t.dec := by
  obtain ⟨-, h⟩ := admitIf_eq_next h
  obtain ⟨hcfg, h⟩ := admitIf_eq_next h
  split at h <;> cases h
  · exact (hinv.withAlloc _).startPage hpar hcfg
  · exact hinv.withAlloc _

/-- An opcode is no code word (R107, R108). -/
theorem isCodeWord_of_decodeCommand {c : Command} {i : Instr} (h : decodeCommand c = .ok i) : isCodeWord i = false := by
  unfold decodeCommand at h
  split at h <;> cases h <;> rfl

/-- A receive command, where no decision is due, keeps the decoder sound. -/
theorem exec_decInv {i : Instr} {s t : State} (htx : isTx i = false) (hcode : isCodeWord i = false)
    (hdue : decisionDue s = false) (hpar : ParamsOk s.par) (hinv : DecInv s.par s.dec) (h : exec i s = .next t) :
    DecInv s.par t.dec := by
  cases i with
  | rxInit =>
    obtain ⟨-, h⟩ := admitIf_eq_next h
    cases h
    exact hinv.init
  | rxRelease =>
    cases h
    exact hinv.release
  | rxSetMode mode =>
    obtain ⟨-, h⟩ := admitIf_eq_next h
    split at h <;> cases h
    exact hinv.withCfg hinv.cfgWidth
  | rxSetWidth width =>
    obtain ⟨-, h⟩ := admitIf_eq_next h
    obtain ⟨hw, h⟩ := admitIf_eq_next h
    cases h
    exact hinv.withCfg (widthOk_of_admitted hw)
  | rxSetXres code | rxSetYres code =>
    obtain ⟨-, h⟩ := admitIf_eq_next h
    cases h
    exact hinv.withCfg hinv.cfgWidth
  | rxStartPage => exact execRxStartPage_decInv hpar hinv h
  | rxEndPage => exact execRxEndPage_decInv hpar hinv h
  | rxPutBit bit => exact putBits_decInv hpar hinv hdue h
  | rxPutByte byte => exact putBits_decInv hpar hinv hdue h
  | rxPutChunk len buf =>
    obtain ⟨-, h⟩ := admitIf_eq_next h
    obtain ⟨-, h⟩ := admitIf_eq_next h
    exact putBits_decInv hpar hinv hdue h
  | rxGetStats =>
    obtain ⟨-, h⟩ := admitIf_eq_next h
    cases h
    exact hinv
  | _ => first | exact Bool.noConfusion htx | exact Bool.noConfusion hcode

/-- A due decision keeps the decoder sound (R201). -/
theorem decide1_decInv {s t : State} (hdue : decisionDue s = true) (hpar : ParamsOk s.par) (hinv : DecInv s.par s.dec)
    (h : decide1 s = .next t) : DecInv s.par t.dec := by
  simp only [decisionDue, Bool.and_eq_true, beq_iff_eq] at hdue
  obtain ⟨hlife, hready⟩ := hdue
  obtain ⟨hmode, hwidth⟩ := hinv.pageCfg hlife
  obtain ⟨m, hmode⟩ := Option.isSome_iff_exists.mp hmode
  obtain ⟨w, hwidth⟩ := Option.isSome_iff_exists.mp hwidth
  have hp := rxPage_eq hlife hmode hwidth
  exact hinv.runs hpar hp (decide1_runs (complete_of_ready hready) h)

/-- Settles O13: a due decision and a receive command keep the decoder sound, and a transmit command leaves it alone. -/
theorem stepKeepsTheDecoderInvariant : Obligations.StepKeepsTheDecoderInvariant := by
  intro s t hpar hinv h
  rcases step_eq_next h with rfl | ⟨hdue, h⟩ | ⟨hdue, c, rest, i, hi, h⟩
  · exact hinv
  · obtain ⟨hpar', -⟩ := decide1_decOnly s t h
    exact hpar' ▸ decide1_decInv hdue hpar hinv h
  · rw [exec_par h]
    cases htx : isTx i with
    | true =>
      obtain ⟨-, -, hdec, -⟩ := exec_encOnly htx _ t h
      exact hdec ▸ hinv
    | false => exact exec_decInv htx (isCodeWord_of_decodeCommand hi) hdue hpar hinv h

end Sys2Proof.Machine
end

section
/-! PROOFS. Who writes the configuration and snapshot registers of a channel (R23 to R25, R51): setters, START_PAGE, END_PAGE
and the lifecycle commands; everything else keeps the setup. -/

namespace Sys2Proof.Machine

/-! ## The transmit channel -/

/-- Who writes the encoder's setup: the staged configuration, the page's configuration with `k`, and the statistics. -/
structure EncWritten (i : Instr) (e t : Enc) : Prop where
  cfg : match i with
    | .txSetMode _ | .txSetWidth _ | .txSetXres _ | .txSetYres _ | .txSetMinRowBits _ | .txInit | .txRelease => True
    | _ => t.cfg = e.cfg
  pcfg : i ≠ .txStartPage → i ≠ .txInit → i ≠ .txRelease → t.pcfg = e.pcfg ∧ t.k = e.k
  opened : i = .txStartPage → t.life = .inPage → t.pcfg = e.cfg
  stats : i ≠ .txEndPage → i ≠ .txInit → i ≠ .txRelease → t.stats = e.stats

/-- An instruction that keeps the setup, and does not open a page, writes none of it. -/
theorem encWritten_of_setup {i : Instr} {e t : Enc} (hi : i ≠ .txStartPage) (h : t.setup = e.setup) :
    EncWritten i e t := by
  obtain ⟨-, hcfg, hpcfg, hk, hstats⟩ := EncSetup.mk.inj h
  refine ⟨?_, fun _ _ _ => ⟨hpcfg, hk⟩, fun hstart => absurd hstart hi, fun _ _ _ => hstats⟩
  cases i <;> first | exact hcfg | exact trivial

/-- A page is opened with the staged configuration (R24, R287). -/
theorem execTxStartPage_encWritten {s t : State} (h : execTxStartPage s = .next t) :
    EncWritten .txStartPage s.enc t.enc := by
  obtain ⟨hidle, h⟩ := admitIf_eq_next h
  obtain ⟨-, h⟩ := admitIf_eq_next h
  have hlife : s.enc.life = .idle := by simpa using hidle
  split at h <;> cases h
  · exact ⟨rfl, fun hne => absurd rfl hne, fun _ _ => rfl, fun _ _ _ => rfl⟩
  · exact ⟨rfl, fun hne => absurd rfl hne, fun _ hpage => absurd (hlife.symm.trans hpage) (by decide), fun _ _ _ => rfl⟩

theorem encWritten_of_delivers {i : Instr} {s t : State} (hi : i ≠ .txStartPage) (h : DeliversIn s t) :
    EncWritten i s.enc t.enc := by
  obtain ⟨pg, -, hd⟩ := h
  exact encWritten_of_setup hi hd.setup

theorem exec_encWritten {i : Instr} {s t : State} (hi : isTx i = true) (h : exec i s = .next t) :
    EncWritten i s.enc t.enc := by
  cases i with
  | txInit =>
    exact ⟨trivial, fun _ hne => absurd rfl hne, nofun, fun _ hne => absurd rfl hne⟩
  | txRelease =>
    exact ⟨trivial, fun _ _ hne => absurd rfl hne, nofun, fun _ _ hne => absurd rfl hne⟩
  | txSetMode mode =>
    obtain ⟨-, h⟩ := admitIf_eq_next h
    split at h <;> cases h
    exact ⟨trivial, fun _ _ _ => ⟨rfl, rfl⟩, nofun, fun _ _ _ => rfl⟩
  | txSetWidth width =>
    obtain ⟨-, h⟩ := admitIf_eq_next h
    obtain ⟨-, h⟩ := admitIf_eq_next h
    cases h
    exact ⟨trivial, fun _ _ _ => ⟨rfl, rfl⟩, nofun, fun _ _ _ => rfl⟩
  | txSetXres code | txSetYres code | txSetMinRowBits code =>
    obtain ⟨-, h⟩ := admitIf_eq_next h
    cases h
    exact ⟨trivial, fun _ _ _ => ⟨rfl, rfl⟩, nofun, fun _ _ _ => rfl⟩
  | txStartPage => exact execTxStartPage_encWritten h
  | txEndPage =>
    obtain ⟨pg, -, h⟩ := andThen_eq_next h
    obtain ⟨st, -, h⟩ := andThen_eq_next h
    cases h
    exact ⟨rfl, fun _ _ _ => ⟨rfl, rfl⟩, nofun, fun hne => absurd rfl hne⟩
  | txRestartPage | txNextPageDifferent | txGetStats =>
    obtain ⟨-, h⟩ := admitIf_eq_next h
    cases h
    exact encWritten_of_setup nofun rfl
  | txGetBit => exact encWritten_of_delivers nofun (execTxGetBit_delivers h)
  | txGetByte => exact encWritten_of_delivers nofun (execTxGetByte_delivers h)
  | txGetChunk maxLen buf => exact encWritten_of_delivers nofun (execTxGetChunk_delivers h)
  | _ => exact Bool.noConfusion hi

/-! ## The receive channel -/

/-- Who writes the decoder's setup: the staged configuration, the page's configuration, and the statistics. -/
structure DecWritten (i : Instr) (d t : Dec) : Prop where
  cfg : match i with
    | .rxSetMode _ | .rxSetWidth _ | .rxSetXres _ | .rxSetYres _ | .rxInit | .rxRelease => True
    | _ => t.cfg = d.cfg
  pcfg : i ≠ .rxStartPage → i ≠ .rxInit → i ≠ .rxRelease → t.pcfg = d.pcfg
  opened : i = .rxStartPage → t.life = .inPage → t.pcfg = d.cfg
  stats : i ≠ .rxEndPage → i ≠ .rxInit → i ≠ .rxRelease → t.stats = d.stats

theorem decWritten_of_setup {i : Instr} {d t : Dec} (hi : i ≠ .rxStartPage) (h : t.setup = d.setup) :
    DecWritten i d t := by
  obtain ⟨-, hcfg, hpcfg, hstats⟩ := DecSetup.mk.inj h
  refine ⟨?_, fun _ _ _ => hpcfg, fun hstart => absurd hstart hi, fun _ _ _ => hstats⟩
  cases i <;> first | exact hcfg | exact trivial

/-- A page is opened with the staged configuration (R24, R306). -/
theorem execRxStartPage_decWritten {s t : State} (h : execRxStartPage s = .next t) :
    DecWritten .rxStartPage s.dec t.dec := by
  obtain ⟨hidle, h⟩ := admitIf_eq_next h
  obtain ⟨-, h⟩ := admitIf_eq_next h
  have hlife : s.dec.life = .idle := by simpa using hidle
  split at h <;> cases h
  · exact ⟨rfl, fun hne => absurd rfl hne, fun _ _ => rfl, fun _ _ _ => rfl⟩
  · exact ⟨rfl, fun hne => absurd rfl hne, fun _ hpage => absurd (hlife.symm.trans hpage) (by decide), fun _ _ _ => rfl⟩

/-- RX_END_PAGE writes the statistics, after decisions and a commit that keep the setup (R307). -/
theorem execRxEndPage_decWritten {s t : State} (h : execRxEndPage s = .next t) : DecWritten .rxEndPage s.dec t.dec := by
  obtain ⟨pg, -, h⟩ := andThen_eq_next h
  obtain ⟨u, hu, h⟩ := andThen_eq_next h
  obtain ⟨v, hv, h⟩ := andThen_eq_next h
  obtain ⟨st, -, h⟩ := andThen_eq_next h
  have hruns : RxRuns PageInv s v := (drainLoop_runs _ hu).trans (commitPartial_runs hv)
  obtain ⟨-, hcfg, hpcfg, -⟩ := DecSetup.mk.inj hruns.setup
  cases h
  exact ⟨hcfg, fun _ _ _ => hpcfg, nofun, fun hne => absurd rfl hne⟩

theorem putBits_setup {bits : List Bool} {s t : State} (h : putBits bits s = .next t) : t.dec.setup = s.dec.setup := by
  obtain ⟨pg, -, h⟩ := andThen_eq_next h
  obtain ⟨u, hu, h⟩ := andThen_eq_next h
  cases h
  exact (decodeBits_runs hu).setup

theorem exec_decWritten {i : Instr} {s t : State} (hi : isTx i = false) (h : exec i s = .next t) :
    DecWritten i s.dec t.dec := by
  by_cases hcode : isCodeWord i = true
  · obtain ⟨pg, d, -, rfl, hstep⟩ := exec_readsCode hcode h
    exact decWritten_of_setup (by rintro rfl; exact absurd hcode (by decide)) hstep.consumes.setup
  cases i with
  | rxInit =>
    exact ⟨trivial, fun _ hne => absurd rfl hne, nofun, fun _ hne => absurd rfl hne⟩
  | rxRelease =>
    exact ⟨trivial, fun _ _ hne => absurd rfl hne, nofun, fun _ _ hne => absurd rfl hne⟩
  | rxSetMode mode =>
    obtain ⟨-, h⟩ := admitIf_eq_next h
    split at h <;> cases h
    exact ⟨trivial, fun _ _ _ => rfl, nofun, fun _ _ _ => rfl⟩
  | rxSetWidth width =>
    obtain ⟨-, h⟩ := admitIf_eq_next h
    obtain ⟨-, h⟩ := admitIf_eq_next h
    cases h
    exact ⟨trivial, fun _ _ _ => rfl, nofun, fun _ _ _ => rfl⟩
  | rxSetXres code | rxSetYres code =>
    obtain ⟨-, h⟩ := admitIf_eq_next h
    cases h
    exact ⟨trivial, fun _ _ _ => rfl, nofun, fun _ _ _ => rfl⟩
  | rxStartPage => exact execRxStartPage_decWritten h
  | rxEndPage => exact execRxEndPage_decWritten h
  | rxPutBit bit => exact decWritten_of_setup nofun (putBits_setup h)
  | rxPutByte byte => exact decWritten_of_setup nofun (putBits_setup h)
  | rxPutChunk len buf =>
    obtain ⟨-, h⟩ := admitIf_eq_next h
    obtain ⟨-, h⟩ := admitIf_eq_next h
    exact decWritten_of_setup nofun (putBits_setup h)
  | rxGetStats =>
    obtain ⟨-, h⟩ := admitIf_eq_next h
    cases h
    exact decWritten_of_setup nofun rfl
  | _ => first | exact Bool.noConfusion hi | exact absurd rfl hcode

/-- Settles O15: each instruction is of one channel, writes of its setup what that channel's lemma says, and leaves the other
channel alone. -/
theorem onlyStartPageConfiguresThePage : Obligations.OnlyStartPageConfiguresThePage := by
  intro i s t h
  have hwritten : EncWritten i s.enc t.enc ∧ DecWritten i s.dec t.dec := by
    cases hi : isTx i with
    | true =>
      obtain ⟨-, -, hdec, -⟩ := exec_encOnly hi s t h
      exact ⟨exec_encWritten hi h, decWritten_of_setup (by rintro rfl; cases hi) (congrArg Dec.setup hdec)⟩
    | false =>
      obtain ⟨-, -, henc, -⟩ := exec_decOnly hi s t h
      exact ⟨encWritten_of_setup (by rintro rfl; cases hi) (congrArg Enc.setup henc), exec_decWritten hi h⟩
  obtain ⟨henc, hdec⟩ := hwritten
  exact ⟨henc.cfg, hdec.cfg, henc.pcfg, hdec.pcfg, henc.opened, hdec.opened, henc.stats, hdec.stats⟩

end Sys2Proof.Machine
end

section
/-! PROOFS. The bit packer appends (R140, R141, R82): what a bit, a bit string and a sequence of bit strings add to the
page bitstream, and what a growth that fails leaves. -/

namespace Sys2Proof.Machine

/-! ## One bit of a register -/

/-- A register after one bit is written. -/
theorem getLsbD_putBit {w n : Nat} (v : BitVec w) (b : Bool) (hn : n < w) (i : Nat) :
    (putBit v n b).getLsbD i = if i = n then b else v.getLsbD i := by
  by_cases hi : i < w
  · rcases Nat.lt_trichotomy i n with hlt | rfl | hgt
    · simp [putBit, hi, hlt, hlt.ne]
    · simp [putBit, hi]
    · have hne : i - n ≠ 0 := Nat.sub_ne_zero_of_lt hgt
      simp [putBit, hi, hgt.ne', hgt.not_gt, hne, BitVec.getLsbD_ofBool]
  · have hne : i ≠ n := by omega
    rw [if_neg hne, BitVec.getLsbD_of_ge _ _ (by omega), BitVec.getLsbD_of_ge _ _ (by omega)]

/-! ## The page bitstream -/

/-- A stored bit (R72). -/
theorem streamBit_stored {e : Enc} {k : Nat} {v : Byte} (hk : k < 8 * e.outBytes)
    (hv : readByte e.out (k / 8) = some v) : e.streamBit k = .next (v.getLsbD (k % 8)) := by
  simp [Enc.streamBit, hk, hv]

/-- A waiting bit (R140). -/
theorem streamBit_waiting {e : Enc} {k : Nat} (hk : 8 * e.outBytes ≤ k) (hlt : k < e.emitted) :
    e.streamBit k = .next (e.acc.getLsbD (k - 8 * e.outBytes)) := by
  simp [Enc.streamBit, Nat.not_lt.mpr hk, hlt]

/-- One encoder comes from another by operations that only add stored bytes (R72). -/
structure KeepsStored (e t : Enc) : Prop where
  outBytes : e.outBytes ≤ t.outBytes
  bytes : ∀ i < e.outBytes, readByte t.out i = readByte e.out i

theorem KeepsStored.refl (e : Enc) : KeepsStored e e := ⟨le_rfl, fun _ _ => rfl⟩

theorem KeepsStored.trans {a b c : Enc} (h : KeepsStored a b) (k : KeepsStored b c) : KeepsStored a c :=
  ⟨h.outBytes.trans k.outBytes, fun i hi => (k.bytes i (hi.trans_le h.outBytes)).trans (h.bytes i hi)⟩

/-- A bit of a stored byte is read as before (R72). -/
theorem KeepsStored.streamBit {e t : Enc} (h : KeepsStored e t) {k : Nat} (hk : k < 8 * e.outBytes) :
    t.streamBit k = e.streamBit k := by
  have hbytes := h.outBytes
  rw [Enc.streamBit, Enc.streamBit, if_pos hk, if_pos (by omega), h.bytes (k / 8) (by omega)]

/-! ## What is appended -/

/-- The page bitstream of one encoder is that of another with bits after it (R140). -/
structure Appends (e : Enc) (bits : List Bool) (t : Enc) : Prop where
  emitted : t.emitted = e.emitted + bits.length
  before : ∀ k < e.emitted, t.streamBit k = e.streamBit k
  after : ∀ (j : Nat) (h : j < bits.length), t.streamBit (e.emitted + j) = .next bits[j]

theorem Appends.refl (e : Enc) : Appends e [] e := ⟨rfl, fun _ _ => rfl, nofun⟩

theorem Appends.trans {a b c : Enc} {s r : List Bool} (h : Appends a s b) (k : Appends b r c) :
    Appends a (s ++ r) c where
  emitted := by rw [k.emitted, h.emitted, List.length_append, Nat.add_assoc]
  before i hi := (k.before i (by rw [h.emitted]; omega)).trans (h.before i hi)
  after j hj := by
    rw [List.length_append] at hj
    rcases Nat.lt_or_ge j s.length with hlt | hge
    · rw [k.before _ (by rw [h.emitted]; omega), h.after j hlt, List.getElem_append_left hlt]
    · have := k.after (j - s.length) (by omega)
      rw [h.emitted, show a.emitted + s.length + (j - s.length) = a.emitted + j by omega] at this
      rw [this, List.getElem_append_right hge]

/-- What is appended stays appended where only other registers are written before and after it. -/
theorem Appends.congr {e e' t t' : Enc} {bits : List Bool} (h : Appends e bits t)
    (he : e'.emitted = e.emitted ∧ e'.streamBit = e.streamBit)
    (ht : t'.emitted = t.emitted ∧ t'.streamBit = t.streamBit) : Appends e' bits t' := by
  obtain ⟨hem, hst⟩ := he
  obtain ⟨htm, hts⟩ := ht
  exact ⟨by rw [htm, hem, h.emitted], by rw [hem, hts, hst]; exact h.before, by rw [hem, hts]; exact h.after⟩

/-! ## A memory failure is final (R186) -/

theorem emitBits_nomem {grow : Nat} {s : List Bool} {e : Enc} (h : e.nomem = true) : e.emitBits grow s = e := by
  cases s with
  | nil => rfl
  | cons b s => simp [Enc.emitBits, h]

theorem emitBits_cons {grow : Nat} {b : Bool} {s : List Bool} {e : Enc} (h : e.nomem = false) :
    e.emitBits grow (b :: s) = (e.emitBit grow b).emitBits grow s := by simp [Enc.emitBits, h]

theorem nomem_of_emitBits {grow : Nat} {s : List Bool} {e : Enc} (h : (e.emitBits grow s).nomem = false) :
    e.nomem = false := Bool.eq_false_of_not_eq_true fun hn => by simp [emitBits_nomem hn, hn] at h

theorem nomem_of_emit {grow : Nat} {s : List Bool} {e : Enc} (h : (e.emit grow s).nomem = false) : e.nomem = false :=
  Bool.eq_false_of_not_eq_true fun hn => by simp [emit_nomem hn, hn] at h

theorem nomem_of_emitAll {grow : Nat} {ss : List (List Bool)} {e : Enc} (h : (e.emitAll grow ss).nomem = false) :
    e.nomem = false := Bool.eq_false_of_not_eq_true fun hn => by simp [emitAll_nomem hn, hn] at h

/-! ## One bit -/

/-- The bit joins the accumulator (R141). -/
def Enc.addBit (b : Bool) (e : Enc) : Enc := { e with acc := putBit e.acc e.accBits b, accBits := e.accBits + 1 }

theorem emitBit_eq (grow : Nat) (b : Bool) (e : Enc) :
    e.emitBit grow b = if e.accBits = 7 then (e.addBit b).completeByte grow else e.addBit b := by
  simp [Enc.emitBit, Enc.addBit]

/-- A bit in the accumulator follows the bits of the stream (R140). -/
theorem addBit_appends (b : Bool) {e : Enc} (h : e.accBits ≤ 7) : Appends e [b] (e.addBit b) where
  emitted := rfl
  before k hk := by
    have hk' : k < (e.addBit b).emitted := Nat.lt_succ_of_lt hk
    rcases Nat.lt_or_ge k (8 * e.outBytes) with hlt | hge
    · exact KeepsStored.streamBit (e := e) (t := e.addBit b) ⟨le_rfl, fun _ _ => rfl⟩ hlt
    · rw [Enc.emitted] at hk
      rw [streamBit_waiting (e := e.addBit b) hge hk', streamBit_waiting hge hk]
      simp only [Enc.addBit]
      rw [getLsbD_putBit _ _ (by omega), if_neg (by omega)]
  after j hj := by
    obtain rfl : j = 0 := by simpa using hj
    rw [Nat.add_zero, streamBit_waiting (e := e.addBit b) (k := e.emitted) (Nat.le_add_right ..) (Nat.lt_succ_self _)]
    simp only [Enc.addBit, Enc.emitted]
    rw [getLsbD_putBit _ _ (by omega)]
    simp

/-- A byte is stored behind the others (R141). -/
theorem storeByte_keepsStored (e : Enc) : KeepsStored e e.storeByte :=
  ⟨Nat.le_succ _, fun _ hi => readByte_writeByte_ne _ _ (Nat.ne_of_lt hi)⟩

/-- A whole byte reads the same once it is stored (R72, R141). -/
theorem storeByte_appends {e : Enc} (h : e.accBits = 8) : Appends e [] e.storeByte where
  emitted := by simp [Enc.emitted, h, Nat.mul_add]
  before k hk := by
    rcases Nat.lt_or_ge k (8 * e.outBytes) with hlt | hge
    · exact (storeByte_keepsStored e).streamBit hlt
    · have hdiv : k / 8 = e.outBytes := by rw [Enc.emitted] at hk; omega
      have hmod : k % 8 = k - 8 * e.outBytes := by omega
      rw [streamBit_waiting hge hk, streamBit_stored (v := e.acc.setWidth 8) (by simp [Enc.emitted] at hk ⊢; omega)
        (by rw [hdiv]; exact readByte_writeByte_same ..), hmod]
      simp only [BitVec.getLsbD_setWidth, Host.Outcome.next.injEq, Bool.and_eq_right_iff_imp, decide_eq_true_eq]
      omega
  after := nofun

/-- A completed byte stays in the stream where it is stored (R141, R82). -/
theorem completeByte_appends {grow : Nat} {e : Enc} (h : e.accBits = 8) (hn : (e.completeByte grow).nomem = false) :
    Appends e [] (e.completeByte grow) := by
  rcases completeByte_cases grow e with ⟨_, hs⟩ | ⟨_, _, hs⟩ | ⟨_, _, hs⟩ <;> rw [hs] at hn ⊢
  · exact storeByte_appends h
  · exact (storeByte_appends (e := { e with alloc := _, outCap := _ }) h).congr ⟨rfl, rfl⟩ ⟨rfl, rfl⟩
  · exact absurd hn (by simp)

/-- A bit that is emitted (R141). -/
theorem emitBit_appends {grow : Nat} (b : Bool) {e : Enc} (h : e.accBits ≤ 7) (hn : (e.emitBit grow b).nomem = false) :
    Appends e [b] (e.emitBit grow b) := by
  rw [emitBit_eq] at hn ⊢
  split at hn
  · rename_i h7
    rw [if_pos h7]
    exact (addBit_appends b h).trans (completeByte_appends (by simp [Enc.addBit, h7]) hn)
  · rename_i h7
    rw [if_neg h7]
    exact addBit_appends b h

/-- A completed byte counts its eight bits as stored, unless the growth failed (R141). -/
theorem completeByte_emitted {grow : Nat} {e : Enc} (h : e.accBits = 8) (hn : (e.completeByte grow).nomem = false) :
    (e.completeByte grow).emitted = e.emitted := by
  simpa using (completeByte_appends h hn).emitted

/-- A bit that is emitted counts as one, whatever the accumulator holds (R140). -/
theorem emitBit_emitted {grow : Nat} {b : Bool} {e : Enc} (hn : (e.emitBit grow b).nomem = false) :
    (e.emitBit grow b).emitted = e.emitted + 1 := by
  rw [emitBit_eq] at hn ⊢
  split at hn
  · rename_i h7
    rw [if_pos h7, completeByte_emitted (by simp [Enc.addBit, h7]) hn]
    rfl
  · rename_i h7
    rw [if_neg h7]
    rfl

/-- A completed byte leaves the stored bytes and the row's bit count alone (R141). -/
theorem completeByte_keeps (grow : Nat) (e : Enc) :
    KeepsStored e (e.completeByte grow) ∧ (e.completeByte grow).rowBits = e.rowBits := by
  rcases completeByte_cases grow e with ⟨_, hs⟩ | ⟨_, _, hs⟩ | ⟨_, _, hs⟩ <;> rw [hs]
  · exact ⟨storeByte_keepsStored e, rfl⟩
  · exact ⟨{ storeByte_keepsStored e with }, rfl⟩
  · exact ⟨⟨le_rfl, fun _ _ => rfl⟩, rfl⟩

theorem emitBit_keeps (grow : Nat) (b : Bool) (e : Enc) :
    KeepsStored e (e.emitBit grow b) ∧ (e.emitBit grow b).rowBits = e.rowBits := by
  rw [emitBit_eq]
  split
  · obtain ⟨hstored, hrow⟩ := completeByte_keeps grow (e.addBit b)
    exact ⟨{ hstored with }, hrow⟩
  · exact ⟨⟨le_rfl, fun _ _ => rfl⟩, rfl⟩

/-! ## Bit strings -/

theorem emitBits_keeps (grow : Nat) (s : List Bool) (e : Enc) :
    KeepsStored e (e.emitBits grow s) ∧ (e.emitBits grow s).rowBits = e.rowBits := by
  induction s generalizing e with
  | nil => exact ⟨.refl e, rfl⟩
  | cons b s ih =>
    cases hne : e.nomem with
    | true =>
      rw [emitBits_nomem hne]
      exact ⟨.refl e, rfl⟩
    | false =>
      rw [emitBits_cons hne]
      obtain ⟨hbit, hbitRow⟩ := emitBit_keeps grow b e
      obtain ⟨hrest, hrestRow⟩ := ih (e.emitBit grow b)
      exact ⟨hbit.trans hrest, hrestRow.trans hbitRow⟩

/-- Bits that are emitted, where no growth fails (R141). -/
theorem emitBits_appends {grow : Nat} (hg : 1 ≤ grow) (s : List Bool) {e : Enc} (h : e.Packed)
    (hn : (e.emitBits grow s).nomem = false) : Appends e s (e.emitBits grow s) := by
  induction s generalizing e with
  | nil => exact .refl e
  | cons b s ih =>
    have hne := nomem_of_emitBits hn
    rw [emitBits_cons hne] at hn ⊢
    exact (emitBit_appends b h.accBits (nomem_of_emitBits hn)).trans (ih (emitBit_packed hg b h hne) hn)

theorem emitBits_emitted {grow : Nat} (s : List Bool) {e : Enc} (hn : (e.emitBits grow s).nomem = false) :
    (e.emitBits grow s).emitted = e.emitted + s.length := by
  induction s generalizing e with
  | nil => rfl
  | cons b s ih =>
    have hne := nomem_of_emitBits hn
    rw [emitBits_cons hne] at hn ⊢
    rw [ih hn, emitBit_emitted (nomem_of_emitBits hn), List.length_cons, Nat.add_assoc, Nat.add_comm 1]

/-! ## `emit` -/

/-- The encoder with another count of the row's bits (R31). -/
def Enc.withRowBits (n : Nat) (e : Enc) : Enc := { e with rowBits := n }

/-- `emit` where the page has memory: its bits, and their count where no growth failed (R141). -/
theorem emit_eq {grow : Nat} {s : List Bool} {e : Enc} (h : e.nomem = false) :
    e.emit grow s = if (e.emitBits grow s).nomem then e.emitBits grow s
      else (e.emitBits grow s).withRowBits (e.rowBits + s.length) := by
  simp [Enc.emit, h, Enc.withRowBits, (emitBits_keeps grow s e).2]

/-- An `emit` without a memory failure is its bits, counted (R141). -/
theorem emit_eq_of_memory {grow : Nat} {s : List Bool} {e : Enc} (hn : (e.emit grow s).nomem = false) :
    (e.emitBits grow s).nomem = false ∧
      e.emit grow s = (e.emitBits grow s).withRowBits (e.rowBits + s.length) := by
  have hne := nomem_of_emit hn
  rw [emit_eq hne] at hn ⊢
  split at hn
  · rename_i h
    exact absurd (h.symm.trans hn) (by decide)
  · rename_i h
    exact ⟨Bool.eq_false_of_not_eq_true h, if_neg h⟩

theorem emit_appends {grow : Nat} (hg : 1 ≤ grow) (s : List Bool) {e : Enc} (h : e.Packed)
    (hn : (e.emit grow s).nomem = false) : Appends e s (e.emit grow s) := by
  obtain ⟨hbits, heq⟩ := emit_eq_of_memory hn
  exact (emitBits_appends hg s h hbits).congr ⟨rfl, rfl⟩ (heq ▸ ⟨rfl, rfl⟩)

theorem emit_rowBits {grow : Nat} {s : List Bool} {e : Enc} (hn : (e.emit grow s).nomem = false) :
    (e.emit grow s).rowBits = e.rowBits + s.length := by
  rw [(emit_eq_of_memory hn).2, Enc.withRowBits]

theorem emit_emitted {grow : Nat} {s : List Bool} {e : Enc} (hn : (e.emit grow s).nomem = false) :
    (e.emit grow s).emitted = e.emitted + s.length := by
  obtain ⟨hbits, heq⟩ := emit_eq_of_memory hn
  rw [heq]
  exact emitBits_emitted s hbits

theorem emit_keepsStored (grow : Nat) (s : List Bool) (e : Enc) : KeepsStored e (e.emit grow s) := by
  cases hne : e.nomem with
  | true =>
    rw [emit_nomem hne]
    exact .refl e
  | false =>
    rw [emit_eq hne]
    split
    · exact (emitBits_keeps grow s e).1
    · exact { (emitBits_keeps grow s e).1 with }

/-- An `emit` whose growth fails counts none of its bits (R141, log 33). -/
theorem emit_rowBits_of_nomem {grow : Nat} {s : List Bool} {e : Enc} (hn : (e.emit grow s).nomem = true) :
    (e.emit grow s).rowBits = e.rowBits := by
  cases hne : e.nomem with
  | true => rw [emit_nomem hne]
  | false =>
    rw [emit_eq hne] at hn ⊢
    split at hn
    · rename_i h
      rw [if_pos h]
      exact (emitBits_keeps grow s e).2
    · rename_i h
      exact absurd hn h

/-- The packer's facts are part of the invariant (R140). -/
theorem EncInv.packed {p : Params} {e : Enc} (h : EncInv p e) : e.Packed :=
  ⟨h.outWf, h.outListed, h.outCap, h.accBits, h.accClean, h.doneWhole ∘ h.nomemDone⟩

/-- Settles O49: bit by bit, by induction on the bits, where no growth fails; else the stored bytes stay. -/
theorem emitAppendsToTheBitstream : Obligations.EmitAppendsToTheBitstream := by
  intro p e grow bits hinv hg
  refine ⟨fun hn => ?_, fun hn => ?_⟩
  · obtain ⟨hemitted, hbefore, hafter⟩ := emit_appends hg bits hinv.packed hn
    exact ⟨hemitted, emit_rowBits hn, hbefore, hafter⟩
  · exact ⟨(emit_packed hg bits hinv.packed).nomemEmpty hn, emit_rowBits_of_nomem hn,
      fun k hk => (emit_keepsStored grow bits e).streamBit hk⟩

/-- Settles O50: the growth draws the refusal, and the bits that follow meet `nomem`. -/
theorem failedGrowthEndsThePage : Obligations.FailedGrowthEndsThePage := by
  intro e grow b bits rest
  refine ⟨fun hn hbits hfull hhead htail => ?_, emit_nomem⟩
  have hscript : e.alloc.script = false :: rest := by
    rw [List.head?_eq_some_iff] at hhead
    obtain ⟨tail, hscript⟩ := hhead
    rw [hscript] at htail ⊢
    rw [← htail, List.tail_cons]
  have hfail : e.emitBit grow b =
      { e with nomem := true, acc := 0, accBits := 0, alloc := ⟨rest, e.alloc.draws + 1⟩ } := by
    simp [emitBit_eq, hbits, Enc.completeByte, Enc.addBit, hfull, Alloc.grow, hscript]
  rw [emit_eq hn, emitBits_cons hn, hfail, emitBits_nomem rfl]
  rfl

end Sys2Proof.Machine
end

section
/-! PROOFS. What a pulled row appends to the page bitstream: frame, code words and fill (R168 to R180), and that every
pull adds a bit or ends the page (R315). -/

namespace Sys2Proof.Machine

/-! ## Sequences of emissions -/

theorem emitAll_appends {grow : Nat} (hg : 1 ≤ grow) (ss : List (List Bool)) {e : Enc} (h : e.Packed)
    (hn : (e.emitAll grow ss).nomem = false) :
    Appends e ss.flatten (e.emitAll grow ss) ∧ (e.emitAll grow ss).rowBits = e.rowBits + ss.flatten.length := by
  induction ss generalizing e with
  | nil => exact ⟨.refl e, rfl⟩
  | cons s ss ih =>
    have hs : (e.emit grow s).nomem = false := nomem_of_emitAll hn
    obtain ⟨happ, hrow⟩ := ih (emit_packed hg s h) hn
    rw [List.flatten_cons]
    refine ⟨(emit_appends hg s h hs).trans happ, ?_⟩
    rw [Enc.emitAll, hrow, emit_rowBits hs, List.length_append, Nat.add_assoc]

theorem emitAll_emitted {grow : Nat} (ss : List (List Bool)) {e : Enc} (hn : (e.emitAll grow ss).nomem = false) :
    (e.emitAll grow ss).emitted = e.emitted + ss.flatten.length := by
  induction ss generalizing e with
  | nil => rfl
  | cons s ss ih =>
    have hs : (e.emit grow s).nomem = false := nomem_of_emitAll hn
    rw [Enc.emitAll, ih hn, emit_emitted hs, List.flatten_cons, List.length_append, Nat.add_assoc]

/-! ## The fill (R173) -/

/-- The zeros that fill a row of `n` bits up to the minimum, none in `T6` (R173, R174). -/
def fillOf (pg : TxPage) (n : Nat) : List Bool := if pg.mode = .t6 then [] else zeros (pg.minRowBits - n)

theorem fill_nomem {pg : TxPage} {e : Enc} (h : e.nomem = true) : e.fill pg = e := by
  rw [Enc.fill, emitAll_nomem h, ite_self]

theorem nomem_of_fill {pg : TxPage} {e : Enc} (h : (e.fill pg).nomem = false) : e.nomem = false :=
  Bool.eq_false_of_not_eq_true fun hn => by simp [fill_nomem hn, hn] at h

theorem fill_appends {pg : TxPage} (hg : 1 ≤ pg.outGrow) {e : Enc} (h : e.Packed) (hn : (e.fill pg).nomem = false) :
    Appends e (fillOf pg e.rowBits) (e.fill pg) ∧ (e.fill pg).rowBits = e.rowBits + (fillOf pg e.rowBits).length := by
  unfold Enc.fill at hn ⊢
  split at hn
  · rename_i hc
    have := emitAll_appends hg (fillPieces (pg.minRowBits - e.rowBits)) h hn
    rw [if_pos hc, fillOf, if_neg hc.1]
    rwa [fillPieces_flatten] at this
  · rename_i hc
    have hnone : fillOf pg e.rowBits = [] := by
      unfold fillOf
      split
      · rfl
      · rename_i hm
        rw [Nat.sub_eq_zero_of_le (Nat.not_lt.mp fun hlt => hc ⟨hm, hlt⟩), zeros, List.replicate_zero]
    rw [if_neg hc, hnone]
    exact ⟨.refl e, rfl⟩

/-! ## A row (R178) -/

/-- The words of a row: its frame and its code words (R168 to R171, R178). -/
def rowWords (pg : TxPage) (row : List Byte) (e : Enc) : List (List Bool) :=
  rowFrame pg.mode (rowIs2d pg.mode e.rowsTo1d) ++
    (rowCodes (rowIs2d pg.mode e.rowsTo1d) (unpack row pg.w) (expand e.refRuns pg.w)).map codeBits

/-- The bits of a row before its fill. -/
def rowBitsOf (pg : TxPage) (row : List Byte) (e : Enc) : List Bool := (rowWords pg row e).flatten

/-- The encoder as a row begins: its pixels and runs read, no bit of it counted, the countdown stepped (R175, R178). -/
def Enc.beginRow (pg : TxPage) (row : List Byte) (e : Enc) : Enc :=
  { e with
    curRow := row
    curRuns := runLengthsOfRow row pg.w
    rowBits := 0
    rowsTo1d := countdownAfter pg e.rowsTo1d }

/-- The encoder after a row's words and fill. -/
def Enc.emitRow (pg : TxPage) (row : List Byte) (e : Enc) : Enc :=
  ((e.beginRow pg row).emitAll pg.outGrow (rowWords pg row e)).fill pg

/-- The encoder as a row ends: statistics, reference, row count (R179, R180, R84). -/
def Enc.endRow (e : Enc) : Enc :=
  { e with page := e.page.countBits e.rowBits, refRuns := e.curRuns, curRuns := [], rows := e.rows + 1 }

/-- A row that is encoded, in these terms. -/
theorem encodeRow_eq_emitRow {pg : TxPage} {row : List Byte} {e t : Enc} (h : e.encodeRow pg row = .next t) :
    t = (e.emitRow pg row).endRow ∧ (e.beginRow pg row).EmitFrame (e.emitRow pg row) := by
  obtain ⟨u, hu, hframe, -, ht⟩ := encodeRow_eq_next h
  subst hu
  exact ⟨ht, hframe⟩

theorem emitRow_appends {pg : TxPage} (hg : 1 ≤ pg.outGrow) (row : List Byte) {e : Enc} (h : e.Packed)
    (hn : (e.emitRow pg row).nomem = false) :
    let bits := rowBitsOf pg row e
    let fill := fillOf pg bits.length
    Appends e (bits ++ fill) (e.emitRow pg row) ∧ (e.emitRow pg row).rowBits = (bits ++ fill).length := by
  have hbegin : (e.beginRow pg row).Packed := { h with }
  obtain ⟨hwords, hcount⟩ := emitAll_appends hg (rowWords pg row e) hbegin (nomem_of_fill hn)
  obtain ⟨hfill, htotal⟩ := fill_appends hg (emitAll_packed hg _ hbegin) hn
  have hzero : (e.beginRow pg row).rowBits + (rowWords pg row e).flatten.length = (rowBitsOf pg row e).length :=
    Nat.zero_add _
  rw [hcount, hzero] at hfill htotal
  refine ⟨(hwords.congr (e' := e) ⟨rfl, rfl⟩ ⟨rfl, rfl⟩).trans hfill, ?_⟩
  rw [List.length_append]
  exact htotal

/-! ## A pull (R177) -/

/-- A pull that is given a row, and does not run out of memory (R177). -/
theorem encodeNextRow_row {pg : TxPage} {e t : Enc} {row : List Byte} {rest : List RowAnswer} (hw : 1 ≤ pg.w)
    (hs : e.source.script = ⟨bytesPerRow pg.w, row⟩ :: rest) (h : e.encodeNextRow pg = .next t) (hn : t.nomem = false) :
    (e.afterRead (bytesPerRow pg.w)).encodeRow pg row = .next t := by
  have hpos : 0 < bytesPerRow pg.w := Nat.div_pos (by omega) (by decide)
  have hanswer : (e.source.answer (bytesPerRow pg.w)).1 = ⟨bytesPerRow pg.w, row⟩ := by simp [RowSource.answer, hs]
  rw [Enc.encodeNextRow, hanswer] at h
  rcases takeAnswer_eq_next h with ⟨hzero, -⟩ | ⟨hneg, -⟩ | ⟨-, -, u, hu, rfl⟩
  · dsimp only at hzero
    omega
  · dsimp only at hneg
    omega
  · split at hn
    · rename_i hnomem
      exact absurd (hnomem.symm.trans hn) (by decide)
    · rename_i hnomem
      rw [if_neg hnomem]
      exact hu

/-- The page's frame as its bits (R92, R169 to R171). -/
theorem flatten_rowFrame (mode : Mode) (is2d : Bool) :
    (rowFrame mode is2d).flatten = match mode with
      | .t41d => List.replicate 11 false ++ [true]
      | .t42d => List.replicate 11 false ++ [true, !is2d]
      | .t6 => [] := by cases mode <;> rfl

theorem rowBitsOf_eq (pg : TxPage) (row : List Byte) (e : Enc) :
    rowBitsOf pg row e = (rowFrame pg.mode (rowIs2d pg.mode e.rowsTo1d)).flatten ++
      (rowCodes (rowIs2d pg.mode e.rowsTo1d) (unpack row pg.w) (expand e.refRuns pg.w)).flatMap codeBits := by
  rw [rowBitsOf, rowWords, List.flatten_append, List.flatMap_def]

/-- What an emission leaves alone of the page, register by register (R141). -/
theorem Enc.EmitFrame.pageRegs {e t : Enc} (h : e.EmitFrame t) :
    t.page = e.page ∧ t.source = e.source ∧ t.reads = e.reads := by
  unfold Enc.EmitFrame at h
  exact ⟨(congrArg Enc.page h :), (congrArg Enc.source h :), (congrArg Enc.reads h :)⟩

theorem Enc.EmitFrame.outPos {e t : Enc} (h : e.EmitFrame t) : t.outPos = e.outPos := by
  unfold Enc.EmitFrame at h
  exact (congrArg Enc.outPos h :)

/-- Settles O51: the row's words and its fill are appended, and the row's end writes the other registers. -/
theorem pulledRowIsAppended : Obligations.PulledRowIsAppended := by
  intro p pg e t row rest is2d bits fill hinv hgrow hw hscript _ hpull hn his2d hbits hfill
  obtain ⟨rfl, hframe⟩ := encodeRow_eq_emitRow (encodeNextRow_row hw hscript hpull hn)
  have hmode : is2d = rowIs2d pg.mode e.rowsTo1d := his2d
  have hrow : rowBitsOf pg row (e.afterRead (bytesPerRow pg.w)) = bits := by
    rw [hbits, rowBitsOf_eq, flatten_rowFrame, hmode]
    rfl
  have hzeros : fillOf pg bits.length = fill := hfill.symm
  obtain ⟨happ, hcount⟩ := emitRow_appends hgrow row (e := e.afterRead (bytesPerRow pg.w)) { hinv.packed with } hn
  rw [hrow, hzeros] at happ hcount
  generalize (e.afterRead (bytesPerRow pg.w)).emitRow pg row = u at *
  obtain ⟨hemitted, hbefore, hafter⟩ : Appends e (bits ++ fill) u.endRow := happ.congr ⟨rfl, rfl⟩ ⟨rfl, rfl⟩
  obtain ⟨-, hcountdown, -, hruns, -, hterm, -, hrows⟩ := hframe.regs
  obtain ⟨hpage, hsource, hreads⟩ := hframe.pageRegs
  have hanswered : (e.source.answer (bytesPerRow pg.w)).2 =
      { e.source with script := rest, calls := e.source.calls + 1 } := by
    simp [RowSource.answer, hscript]
  have hstep : countdownAfter pg e.rowsTo1d = match pg.mode with
      | .t42d => if e.rowsTo1d = 0 then pg.k - 1 else e.rowsTo1d - 1
      | _ => e.rowsTo1d := by
    cases hm : pg.mode with
    | t42d =>
      simp only [countdownAfter, hm, countdown]
      split <;> rfl
    | t41d | t6 => simp only [countdownAfter, hm]
  refine ⟨hemitted, hbefore, hafter, hcountdown.trans hstep, hcount, congrArg (· + 1) hrows, hruns, rfl, ?_,
    hsource.trans hanswered, hreads, hframe.outPos, hterm⟩
  have hstats : u.endRow.page = e.page.countBits (bits ++ fill).length := by
    rw [← hcount]
    exact congrArg (PageStats.countBits u.rowBits) hpage
  rw [hstats]
  cases hmin : e.page.minRowBits <;> cases hmax : e.page.maxRowBits <;>
    simp [PageStats.countBits, minBits, maxBits, hmin, hmax]

/-! ## A pull adds a bit or ends the page (R315) -/

theorem isCodeWord_verticalOf (off : Int) : isCodeWord (verticalOf off) = true := by
  unfold verticalOf
  split_ifs <;> rfl

/-- A row of one pixel or more has a code word in two dimensions (R163). -/
theorem codes2d_eq_cons {cur : List Color} (hcur : 1 ≤ cur.length) (ref : List Color) :
    ∃ i is, codes2d cur ref = i :: is ∧ isCodeWord i = true := by
  have hlt : (-1 : Int) < cur.length := by omega
  rw [codes2d, codes2dLoop, if_pos hlt]
  dsimp only
  split_ifs
  · exact ⟨_, _, rfl, rfl⟩
  · exact ⟨_, _, rfl, isCodeWord_verticalOf _⟩
  · exact ⟨_, _, rfl, rfl⟩

/-- A row has a bit: its EOL, or in `T6` its first code word (R169 to R171, R174). -/
theorem length_rowBitsOf_pos {pg : TxPage} (hw : 1 ≤ pg.w) (row : List Byte) (e : Enc) :
    0 < (rowBitsOf pg row e).length := by
  rw [rowBitsOf_eq, flatten_rowFrame, List.length_append]
  cases hm : pg.mode with
  | t41d => simp
  | t42d => simp
  | t6 =>
    obtain ⟨i, is, hcodes, hi⟩ := codes2d_eq_cons (cur := unpack row pg.w) (by simpa [unpack]) (expand e.refRuns pg.w)
    have hbits : codeBits i ≠ [] := by simpa [isCodeWord] using hi
    simp only [rowIs2d, rowCodes, if_true, hcodes, List.flatMap_cons, List.length_append]
    have := List.length_pos_of_ne_nil hbits
    omega

theorem fill_emitted_le {pg : TxPage} {e : Enc} (hn : (e.fill pg).nomem = false) : e.emitted ≤ (e.fill pg).emitted := by
  unfold Enc.fill at hn ⊢
  split at hn
  · rename_i hc
    rw [if_pos hc, emitAll_emitted _ hn]
    exact Nat.le_add_right ..
  · rename_i hc
    rw [if_neg hc]

/-- A row that is encoded adds a bit, where no growth fails. -/
theorem emitRow_emitted_lt {pg : TxPage} (hw : 1 ≤ pg.w) (row : List Byte) {e : Enc}
    (hn : (e.emitRow pg row).nomem = false) : e.emitted < (e.emitRow pg row).emitted := by
  have hwords := emitAll_emitted (rowWords pg row e) (nomem_of_fill hn)
  have hfill := fill_emitted_le hn
  have hpos : 0 < (rowWords pg row e).flatten.length := length_rowBitsOf_pos hw row e
  have hbegin : (e.beginRow pg row).emitted = e.emitted := rfl
  rw [Enc.emitRow]
  omega

/-- Every pull adds a bit or ends the page, and leaves the read cursor alone (R187, R315). -/
theorem encodeNextRow_progress {pg : TxPage} (hw : 1 ≤ pg.w) {e t : Enc} (h : e.encodeNextRow pg = .next t) :
    t.termDone = true ∨ e.emitted < t.emitted := by
  rcases takeAnswer_eq_next h with ⟨_, rfl⟩ | ⟨_, rfl⟩ | ⟨_, _, u, hu, rfl⟩
  · exact .inl rfl
  · exact .inl rfl
  · split
    · exact .inl rfl
    · rename_i hn
      obtain ⟨rfl, -⟩ := encodeRow_eq_emitRow hu
      exact .inr (emitRow_emitted_lt (e := e.afterRead _) hw _ (Bool.eq_false_of_not_eq_true hn))

/-- A pull leaves the read cursor alone (R33, R177). -/
theorem encodeNextRow_outPos {pg : TxPage} {e t : Enc} (h : e.encodeNextRow pg = .next t) : t.outPos = e.outPos := by
  rcases takeAnswer_eq_next h with ⟨_, rfl⟩ | ⟨_, rfl⟩ | ⟨_, _, u, hu, rfl⟩
  · exact (terminatePage_frame pg _).outPos
  · exact (terminatePage_frame pg _).outPos
  · obtain ⟨rfl, hframe⟩ := encodeRow_eq_emitRow hu
    split <;> exact hframe.outPos

end Sys2Proof.Machine
end

section
/-! PROOFS. Production on demand (R187): how many pulls `ensure` makes, and what one pull leaves for the rest of a
command. -/

namespace Sys2Proof.Machine

/-! ## Sequences of answers -/

theorem andThen_congr {α β : Type} {r : Res α} {f g : α → Res β} (h : ∀ a, r = .next a → f a = g a) :
    andThen r f = andThen r g := by
  cases r with
  | next a => exact h a rfl
  | fault x => rfl
  | refused x => rfl

/-! ## `ensure` -/

theorem ensureLoop_stop {pg : TxPage} {k : Nat} {e : Enc} (h : k < e.emitted ∨ e.termDone = true) (fuel : Nat) :
    Enc.ensureLoop pg k fuel e = .next e := by
  cases fuel with
  | zero => rfl
  | succ n =>
    have hstop : (decide (e.emitted ≤ k) && !e.termDone) = false := by
      rcases h with h | h <;> simp [h]
    simp [Enc.ensureLoop, hstop]

theorem ensureLoop_succ {pg : TxPage} {k : Nat} {e : Enc} (hk : e.emitted ≤ k) (hd : e.termDone = false) (fuel : Nat) :
    Enc.ensureLoop pg k (fuel + 1) e = andThen (e.encodeNextRow pg) (Enc.ensureLoop pg k fuel) := by
  simp [Enc.ensureLoop, hk, hd]

/-- Every pull adds a bit or ends the page, so that more fuel than the missing bits changes nothing (R315, log 24). -/
theorem ensureLoop_eq_ensure {pg : TxPage} (hw : 1 ≤ pg.w) {k fuel : Nat} {e : Enc} (h : k + 1 - e.emitted ≤ fuel) :
    Enc.ensureLoop pg k fuel e = e.ensure pg k := by
  have agree : ∀ m n : Nat, ∀ e : Enc, k + 1 - e.emitted ≤ m → k + 1 - e.emitted ≤ n →
      Enc.ensureLoop pg k m e = Enc.ensureLoop pg k n e := by
    intro m
    induction m with
    | zero =>
      intro n e hm _
      rw [ensureLoop_stop (.inl (by omega)), ensureLoop_stop (.inl (by omega))]
    | succ m ih =>
      intro n e hm hn
      by_cases hstop : k < e.emitted ∨ e.termDone = true
      · rw [ensureLoop_stop hstop, ensureLoop_stop hstop]
      · obtain ⟨hk, hd⟩ := not_or.mp hstop
        have hk := Nat.not_lt.mp hk
        obtain ⟨n, rfl⟩ : ∃ j, n = j + 1 := ⟨n - 1, by omega⟩
        rw [ensureLoop_succ hk (Bool.eq_false_of_not_eq_true hd), ensureLoop_succ hk (Bool.eq_false_of_not_eq_true hd)]
        refine andThen_congr fun t ht => ?_
        rcases encodeNextRow_progress hw ht with hend | hlt
        · rw [ensureLoop_stop (.inr hend), ensureLoop_stop (.inr hend)]
        · exact ih n t (by omega) (by omega)
  exact agree fuel _ e h le_rfl

/-- Where the bit is missing, `ensure` is one pull and then `ensure` (R187). -/
theorem ensure_pull {pg : TxPage} (hw : 1 ≤ pg.w) {k : Nat} {e : Enc} (hk : e.emitted ≤ k) (hd : e.termDone = false) :
    e.ensure pg k = andThen (e.encodeNextRow pg) (Enc.ensure pg k) := by
  obtain ⟨n, hn⟩ : ∃ n, k + 1 - e.emitted = n + 1 := ⟨k - e.emitted, by omega⟩
  rw [Enc.ensure, hn, ensureLoop_succ hk hd]
  refine andThen_congr fun t ht => ?_
  rcases encodeNextRow_progress hw ht with hend | hlt
  · rw [ensureLoop_stop (.inr hend), ensure_stop (.inr hend)]
  · exact ensureLoop_eq_ensure hw (by omega)

/-- Where only the next bit is missing, `ensure` is one pull (R187). -/
theorem ensure_next {pg : TxPage} {k : Nat} {e : Enc} (hk : k = e.emitted) (hd : e.termDone = false) :
    e.ensure pg k = e.encodeNextRow pg := by
  have hfuel : k + 1 - e.emitted = 0 + 1 := by omega
  rw [Enc.ensure, hfuel, ensureLoop_succ hk.ge hd]
  exact andThen_next_right _

/-! ## A pull inside a command -/

/-- The page is read off the parameters and the setup (R24, R25). -/
theorem txPage_congr {s t : State} (hpar : t.par = s.par) (hsetup : t.enc.setup = s.enc.setup) :
    txPage t = txPage s := by
  obtain ⟨hlife, -, hpcfg, hk, -⟩ := EncSetup.mk.inj hsetup
  simp only [txPage, hpar, hlife, hpcfg, hk]

/-- After a pull the command stands in the same page, at the same cursor (R177). -/
theorem pull_samePage {s : State} {m : Mode} {w b : Word} (h : InTxPage s m w b) (hd : s.enc.termDone = false) {e : Enc}
    (hp : s.enc.encodeNextRow (txPageOf s m w b) = .next e) :
    txPage (s.withEnc e) = .next (txPageOf s m w b) ∧ e.outPos = s.enc.outPos :=
  ⟨(txPage_congr (s := s) (t := s.withEnc e) rfl (encodeNextRow_delivers hd hp).setup).trans (txPage_of_inTxPage h),
    encodeNextRow_outPos hp⟩

end Sys2Proof.Machine
end

section
/-! PROOFS. Delivery (R291 to R295): what the GET commands answer, and how they go on after a pull. -/

namespace Sys2Proof.Machine

/-! ## Results (R109, R295) -/

theorem bitRes_eq (data last : Bool) : bitRes data last = (if data then 1 else 0) ||| (if last then 2 else 0) := by
  cases data <;> cases last <;> rfl

theorem bitResEnd_txErr (e : Enc) : bitResEnd (txErr e) = if e.nomem ∨ e.rowReadError then 12 else 4 := by
  cases hn : e.nomem <;> cases hr : e.rowReadError <;> simp [txErr, hn, hr, bitResEnd]

theorem byteRes_eq (v : Byte) (last : Bool) : byteRes v last = v.setWidth 11 ||| (if last then 0x100#11 else 0#11) := by
  revert v
  cases last <;> decide

theorem byteResEnd_txErr (e : Enc) :
    byteResEnd (txErr e) = if e.nomem ∨ e.rowReadError then 0x600#11 else 0x200#11 := by
  cases hn : e.nomem <;> cases hr : e.rowReadError <;> simp [txErr, hn, hr, byteResEnd]

theorem chunkRes_eq {n : Nat} (hn : n < 2 ^ 31) (error : Bool) :
    chunkRes n error = BitVec.ofNat 32 n ||| (if error then 0x80000000#32 else 0#32) := by
  cases error with
  | false => simp [chunkRes]
  | true =>
    have hor : n + 2 ^ 31 = n ||| 2 ^ 31 := by
      rw [Nat.add_comm, Nat.or_comm]
      exact Nat.two_pow_add_eq_or_of_lt hn 1
    have hsum : n + 2 ^ 31 * true.toNat = n ||| 2 ^ 31 := hor
    rw [chunkRes, hsum, BitVec.ofNat_or]
    rfl

/-! ## The read cursor (R33) -/

/-- The encoder at another read cursor. -/
def Enc.seek (n : Nat) (e : Enc) : Enc := { e with outPos := n }

@[simp] theorem Enc.seek_outPos (n : Nat) (e : Enc) : (e.seek n).outPos = n := rfl
@[simp] theorem Enc.seek_emitted (n : Nat) (e : Enc) : (e.seek n).emitted = e.emitted := rfl
@[simp] theorem Enc.seek_out (n : Nat) (e : Enc) : (e.seek n).out = e.out := rfl
@[simp] theorem Enc.seek_outBytes (n : Nat) (e : Enc) : (e.seek n).outBytes = e.outBytes := rfl
@[simp] theorem Enc.seek_termDone (n : Nat) (e : Enc) : (e.seek n).termDone = e.termDone := rfl

/-- Behind a delivered bit or byte, `ensure` stops where there is more or the page has ended (R187). -/
theorem ensure_seek_stop {pg : TxPage} {n : Nat} {e : Enc} (h : n < e.emitted ∨ e.termDone = true) :
    (e.seek n).ensure pg n = .next (e.seek n) := ensure_stop (e := e.seek n) h

/-- Behind the last bit so far of a page that has not ended, `ensure` is one pull (R187). -/
theorem ensure_seek_next {pg : TxPage} {n : Nat} {e : Enc} (hn : n = e.emitted) (hd : e.termDone = false) :
    (e.seek n).ensure pg n = (e.seek n).encodeNextRow pg := ensure_next (e := e.seek n) hn hd

/-! ## TX_GET_BIT (R291) -/

/-- A bit that is there (R72, R140). -/
theorem streamBit_of_there {e : Enc} {k : Nat} {bit : Bool} (hk : k < e.emitted)
    (h : (k < 8 * e.outBytes ∧ ∃ v, readByte e.out (k / 8) = some v ∧ bit = v.getLsbD (k % 8)) ∨
      (8 * e.outBytes ≤ k ∧ bit = e.acc.getLsbD (k - 8 * e.outBytes))) : e.streamBit k = .next bit := by
  rcases h with ⟨hlt, v, hv, rfl⟩ | ⟨hge, rfl⟩
  · exact streamBit_stored hlt hv
  · exact streamBit_waiting hge hk

section
variable {s : State} {m : Mode} {w b : Word}

/-- A bit that is there is delivered; then `ensure` says whether it is the last one. -/
theorem execTxGetBit_of_bit (h : InTxPage s m w b) {bit : Bool} (hlt : s.enc.outPos < s.enc.emitted)
    (hbit : s.enc.streamBit s.enc.outPos = .next bit) :
    execTxGetBit s =
      andThen (Enc.ensure (txPageOf s m w b) (s.enc.outPos + 1) (s.enc.seek (s.enc.outPos + 1))) fun e =>
        .next ((s.withEnc e).withResult
          (.bit ((if bit then 1 else 0) ||| (if e.emitted ≤ e.outPos then 2 else 0)))) := by
  rw [execTxGetBit, txPage_of_inTxPage h, andThen_next, ensure_stop (.inl hlt), andThen_next,
    if_neg (Nat.not_le.mpr hlt), hbit, andThen_next]
  refine andThen_congr fun e _ => ?_
  rw [finishTx_eq, bitRes_eq]
  simp only [decide_eq_true_eq]

theorem execTxGetBit_end (h : InTxPage s m w b) (hend : s.enc.emitted ≤ s.enc.outPos) (hd : s.enc.termDone = true) :
    execTxGetBit s = .next (s.withResult (.bit (bitResEnd (txErr s.enc)))) := by
  rw [execTxGetBit, txPage_of_inTxPage h, andThen_next, ensure_stop (.inr hd), andThen_next, if_pos hend]
  rfl

theorem execTxGetBit_pull (h : InTxPage s m w b) (hw : 1 ≤ w.toNat) (hend : s.enc.emitted ≤ s.enc.outPos)
    (hd : s.enc.termDone = false) :
    execTxGetBit s =
      andThen (s.enc.encodeNextRow (txPageOf s m w b)) fun e => execTxGetBit (s.withEnc e) := by
  rw [execTxGetBit, txPage_of_inTxPage h, andThen_next, ensure_pull hw hend hd, andThen_assoc]
  refine andThen_congr fun e he => ?_
  obtain ⟨hpage, hpos⟩ := pull_samePage h hd he
  rw [execTxGetBit, hpage, andThen_next, ← hpos]
  rfl

end

/-- Settles O46: a bit that is there is delivered, and `ensure` behind it stops or pulls once; else the end, or a
pull. -/
theorem getBitDelivers : Obligations.GetBitDelivers := by
  intro s m w b h
  refine ⟨fun bit hthere => ?_, fun hend hd => ?_, fun hw hend hd => execTxGetBit_pull h hw hend hd⟩
  · have hdeliver (hlt : s.enc.outPos < s.enc.emitted) := execTxGetBit_of_bit h hlt (streamBit_of_there hlt hthere)
    refine ⟨fun hlt => (hdeliver (by omega)).trans ?_, fun heq hd => (hdeliver (by omega)).trans ?_,
      fun heq hd => (hdeliver (by omega)).trans ?_⟩
    · rw [ensure_seek_stop (.inl hlt), andThen_next, Enc.seek_emitted, Enc.seek_outPos,
        if_neg (Nat.not_le.mpr hlt)]
      cases bit <;> rfl
    · rw [ensure_seek_stop (.inr hd), andThen_next, Enc.seek_emitted, Enc.seek_outPos, if_pos heq.ge]
      cases bit <;> rfl
    · rw [ensure_seek_next heq hd]
      refine andThen_congr fun e he => ?_
      rw [encodeNextRow_outPos he]
      rfl
  · rw [← bitResEnd_txErr]
    exact execTxGetBit_end h hend hd

/-! ## A byte at the cursor (R292, R293) -/

theorem byteOfBits_bitsOfByte : ∀ v : Byte, byteOfBits (bitsOfByte v) = v := by decide

theorem streamBits_eq {e : Enc} {k : Nat} {bits : List Bool}
    (h : ∀ (j : Nat) (hj : j < bits.length), e.streamBit (k + j) = .next bits[j]) :
    e.streamBits k bits.length = .next bits := by
  induction bits generalizing k with
  | nil => rfl
  | cons b bits ih =>
    have hfirst : e.streamBit k = .next b := h 0 (Nat.zero_lt_succ _)
    have hrest : e.streamBits (k + 1) bits.length = .next bits := ih fun j hj => by
      have := h (j + 1) (Nat.succ_lt_succ hj)
      rwa [List.getElem_cons_succ, Nat.add_comm j 1, ← Nat.add_assoc] at this
    rw [List.length_cons, Enc.streamBits, hfirst, andThen_next, hrest, andThen_next]

/-- The bits of a stored byte (R72). -/
theorem streamBits_stored {e : Enc} {k : Nat} {v : Byte} (ha : k % 8 = 0) (hv : readByte e.out (k / 8) = some v)
    (hk : k + 8 ≤ 8 * e.outBytes) : e.streamBits k 8 = .next (bitsOfByte v) := by
  refine streamBits_eq (bits := bitsOfByte v) fun j hj => ?_
  have hj : j < 8 := by simpa [bitsOfByte] using hj
  have hdiv : (k + j) / 8 = k / 8 := by omega
  have hmod : (k + j) % 8 = j := by omega
  rw [streamBit_stored (by omega) (hdiv ▸ hv), hmod]
  simp [bitsOfByte]

/-- A stored byte is delivered (R292). -/
theorem nextByte_stored (pg : TxPage) {e : Enc} {v : Byte} (ha : e.outPos % 8 = 0)
    (hv : readByte e.out (e.outPos / 8) = some v) (hk : e.outPos + 8 ≤ 8 * e.outBytes) :
    e.nextByte pg = .next (some v, e.seek (e.outPos + 8)) := by
  have hmore : e.outPos + 7 < e.emitted := by rw [Enc.emitted]; omega
  rw [Enc.nextByte, ensure_stop (.inl hmore), andThen_next, if_neg (by omega), streamBits_stored ha hv hk, andThen_next,
    byteOfBits_bitsOfByte]
  rfl

/-- Past the end of an ended page there is no byte (R292). -/
theorem nextByte_end (pg : TxPage) {e : Enc} (hend : e.emitted ≤ e.outPos) (hd : e.termDone = true) :
    e.nextByte pg = .next (none, e) := by
  rw [Enc.nextByte, ensure_stop (.inr hd), andThen_next, if_pos hend]

/-- Where the byte is not whole, a pull comes first (R187, R292). -/
theorem nextByte_pull {pg : TxPage} (hw : 1 ≤ pg.w) {e : Enc} (hend : e.emitted ≤ e.outPos + 7)
    (hd : e.termDone = false) : e.nextByte pg = andThen (e.encodeNextRow pg) (Enc.nextByte pg) := by
  rw [Enc.nextByte, ensure_pull hw hend hd, andThen_assoc]
  refine andThen_congr fun t ht => ?_
  rw [Enc.nextByte, encodeNextRow_outPos ht]

/-! ## TX_GET_BYTE (R292) -/

section
variable {s : State} {m : Mode} {w b : Word}

/-- A stored byte is delivered; then `ensure` says whether it is the last one. -/
theorem execTxGetByte_of_byte (h : InTxPage s m w b) (ha : s.enc.outPos % 8 = 0) {v : Byte}
    (hv : readByte s.enc.out (s.enc.outPos / 8) = some v) (hk : s.enc.outPos + 8 ≤ 8 * s.enc.outBytes) :
    execTxGetByte s =
      andThen (Enc.ensure (txPageOf s m w b) (s.enc.outPos + 8) (s.enc.seek (s.enc.outPos + 8))) fun e =>
        .next ((s.withEnc e).withResult
          (.byte (v.setWidth 11 ||| (if e.emitted ≤ e.outPos then 0x100#11 else 0#11)))) := by
  rw [execTxGetByte, txPage_of_inTxPage h, andThen_next, beq_iff_eq.mpr ha, admitIf_true, nextByte_stored _ ha hv hk,
    andThen_next]
  refine andThen_congr fun e _ => ?_
  rw [finishTx_eq, byteRes_eq]
  simp only [decide_eq_true_eq]

theorem execTxGetByte_end (h : InTxPage s m w b) (ha : s.enc.outPos % 8 = 0) (hend : s.enc.emitted ≤ s.enc.outPos)
    (hd : s.enc.termDone = true) : execTxGetByte s = .next (s.withResult (.byte (byteResEnd (txErr s.enc)))) := by
  rw [execTxGetByte, txPage_of_inTxPage h, andThen_next, beq_iff_eq.mpr ha, admitIf_true, nextByte_end _ hend hd]
  rfl

theorem execTxGetByte_pull (h : InTxPage s m w b) (ha : s.enc.outPos % 8 = 0) (hw : 1 ≤ w.toNat)
    (hend : s.enc.emitted ≤ s.enc.outPos + 7) (hd : s.enc.termDone = false) :
    execTxGetByte s =
      andThen (s.enc.encodeNextRow (txPageOf s m w b)) fun e => execTxGetByte (s.withEnc e) := by
  rw [execTxGetByte, txPage_of_inTxPage h, andThen_next, beq_iff_eq.mpr ha, admitIf_true, nextByte_pull hw hend hd,
    andThen_assoc]
  refine andThen_congr fun e he => ?_
  obtain ⟨hpage, hpos⟩ := pull_samePage h hd he
  have ha' : e.outPos % 8 = 0 := hpos ▸ ha
  rw [execTxGetByte, hpage, andThen_next, State.withEnc_enc, beq_iff_eq.mpr ha', admitIf_true]
  rfl

end

/-- Settles O47: a stored byte is delivered, and `ensure` behind it stops or pulls once; else the end, or a pull. -/
theorem getByteDelivers : Obligations.GetByteDelivers := by
  intro s m w b h ha
  refine ⟨fun v hv hk => ?_, fun hend hd => ?_, fun hw hend hd => execTxGetByte_pull h ha hw hend hd⟩
  · have hdeliver := execTxGetByte_of_byte h ha hv hk
    refine ⟨fun hlt => hdeliver.trans ?_, fun heq hd => hdeliver.trans ?_, fun heq hd => hdeliver.trans ?_⟩
    · rw [ensure_seek_stop (.inl hlt), andThen_next, Enc.seek_emitted, Enc.seek_outPos, if_neg (Nat.not_le.mpr hlt),
        BitVec.or_zero]
      rfl
    · rw [ensure_seek_stop (.inr hd), andThen_next, Enc.seek_emitted, Enc.seek_outPos, if_pos heq.ge]
      rfl
    · rw [ensure_seek_next heq hd]
      refine andThen_congr fun e he => ?_
      rw [encodeNextRow_outPos he]
      rfl
  · rw [← byteResEnd_txErr]
    exact execTxGetByte_end h ha hend hd

/-! ## TX_GET_CHUNK (R293) -/

/-- Past the end of an ended page there are no bytes (R293). -/
theorem nextBytes_end (pg : TxPage) (n : Nat) {e : Enc} (hend : e.emitted ≤ e.outPos) (hd : e.termDone = true) :
    e.nextBytes pg n = .next ([], e) := by
  cases n with
  | zero => rfl
  | succ n => rw [Enc.nextBytes, nextByte_end pg hend hd, andThen_next]

/-- A stored byte, and the bytes behind it (R293). -/
theorem nextBytes_cons (pg : TxPage) (n : Nat) {e : Enc} {v : Byte} (ha : e.outPos % 8 = 0)
    (hv : readByte e.out (e.outPos / 8) = some v) (hk : e.outPos + 8 ≤ 8 * e.outBytes) :
    e.nextBytes pg (n + 1) =
      andThen ((e.seek (e.outPos + 8)).nextBytes pg n) fun r => .next (v :: r.1, r.2) := by
  rw [Enc.nextBytes, nextByte_stored pg ha hv hk, andThen_next]

/-- Stored bytes, and the bytes behind them (R293). -/
theorem nextBytes_append (pg : TxPage) (n : Nat) (bytes : List Byte) {e : Enc} (ha : e.outPos % 8 = 0)
    (hk : e.outPos + 8 * bytes.length ≤ 8 * e.outBytes)
    (hv : ∀ i < bytes.length, readByte e.out (e.outPos / 8 + i) = bytes[i]?) :
    e.nextBytes pg (bytes.length + n) =
      andThen ((e.seek (e.outPos + 8 * bytes.length)).nextBytes pg n) fun r => .next (bytes ++ r.1, r.2) := by
  induction bytes generalizing e with
  | nil =>
    rw [List.length_nil, Nat.zero_add]
    exact (andThen_next_right _).symm
  | cons v bytes ih =>
    rw [List.length_cons] at hk hv
    have hfirst : readByte e.out (e.outPos / 8) = some v := hv 0 (Nat.zero_lt_succ _)
    have hrest : ∀ i < bytes.length, readByte e.out ((e.outPos + 8) / 8 + i) = bytes[i]? := fun i hi => by
      have := hv (i + 1) (Nat.succ_lt_succ hi)
      rw [List.getElem?_cons_succ] at this
      rw [← this]
      congr 1
      omega
    have hpos : e.outPos + 8 + 8 * bytes.length = e.outPos + 8 * (bytes.length + 1) := by omega
    have hlater := ih (e := e.seek (e.outPos + 8)) (by rw [Enc.seek_outPos]; omega)
      (by rw [Enc.seek_outPos, Enc.seek_outBytes]; omega) hrest
    rw [List.length_cons, Nat.add_right_comm, nextBytes_cons pg _ ha hfirst (by omega), hlater, andThen_assoc,
      Enc.seek_outPos, hpos]
    rfl

/-- Where the next byte is not whole, a pull comes first (R187, R293). -/
theorem nextBytes_pull {pg : TxPage} (hw : 1 ≤ pg.w) {n : Nat} (hn : 0 < n) {e : Enc} (hend : e.emitted ≤ e.outPos + 7)
    (hd : e.termDone = false) : e.nextBytes pg n = andThen (e.encodeNextRow pg) (Enc.nextBytes pg n) := by
  obtain ⟨n, rfl⟩ := Nat.exists_eq_succ_of_ne_zero hn.ne'
  rw [Enc.nextBytes, nextByte_pull hw hend hd, andThen_assoc]
  rfl

/-- What TX_GET_CHUNK answers when it has delivered bytes (R293, R295). -/
def chunkResult (maxLen : Nat) (buf : List Byte) (r : List Byte × Enc) : CmdResult :=
  .chunk (chunkRes r.1.length (decide (r.1.length < maxLen) && txErr r.2)) (r.1 ++ buf.drop r.1.length)

/-- A chunk of every byte asked for. -/
theorem chunkResult_full {maxLen : Word} {bytes : List Byte} (hlen : bytes.length = maxLen.toNat)
    (hmax : maxLen.toNat < 2 ^ 31) (buf : List Byte) (e : Enc) :
    chunkResult maxLen.toNat buf (bytes, e) = .chunk maxLen (bytes ++ buf.drop maxLen.toNat) := by
  rw [chunkResult, chunkRes_eq (hlen.trans_lt hmax), hlen]
  simp

/-- A chunk that the page's end cuts short. -/
theorem chunkResult_short {maxLen : Nat} {bytes : List Byte} (hlen : bytes.length < maxLen) (hmax : maxLen < 2 ^ 31)
    (buf : List Byte) (e : Enc) :
    chunkResult maxLen buf (bytes, e) =
      .chunk (BitVec.ofNat 32 bytes.length ||| (if e.nomem ∨ e.rowReadError then 0x80000000#32 else 0#32))
        (bytes ++ buf.drop bytes.length) := by
  rw [chunkResult, chunkRes_eq (hlen.trans hmax)]
  simp [hlen, txErr]

/-- A chunk of one byte more, at its front. -/
theorem chunkResult_cons (n : Nat) (v x : Byte) (rest bytes : List Byte) (e : Enc) {c : Word} {out : List Byte}
    (h : chunkResult n rest (bytes, e) = .chunk c out) :
    chunkResult (n + 1) (x :: rest) (v :: bytes, e) = .chunk (c + 1) (v :: out) := by
  obtain ⟨rfl, rfl⟩ := CmdResult.chunk.inj h
  simp only [chunkResult, chunkRes, List.length_cons, Nat.add_lt_add_iff_right, List.drop_succ_cons, List.cons_append,
    CmdResult.chunk.injEq, and_true]
  rw [Nat.add_right_comm, BitVec.ofNat_add]
  rfl

section
variable {s : State} {pg : TxPage} {maxLen : Word} {buf : List Byte}

/-- TX_GET_CHUNK with an operand, a cursor and a buffer that it admits (R293, R76, R331). -/
theorem execTxGetChunk_eq (hp : txPage s = .next pg) (ha : s.enc.outPos % 8 = 0) (hmax : maxLen.toNat < 2 ^ 31)
    (hbuf : maxLen.toNat ≤ buf.length) :
    execTxGetChunk maxLen buf s = andThen (s.enc.nextBytes pg maxLen.toNat) fun r =>
      .next ((s.withEnc r.2).withResult (chunkResult maxLen.toNat buf r)) := by
  rw [execTxGetChunk, hp, andThen_next, beq_iff_eq.mpr ha, admitIf_true, decide_eq_true hmax, admitIf_true,
    decide_eq_true hbuf, admitIf_true]
  rfl

/-- TX_GET_CHUNK of a byte more than the bytes behind a stored one (R293). -/
theorem execTxGetChunk_cons (hp : txPage s = .next pg) (ha : s.enc.outPos % 8 = 0) (hmax : maxLen.toNat < 2 ^ 31)
    {v x : Byte} {rest : List Byte} (hpos : 0 < maxLen.toNat) (hbuf : maxLen.toNat ≤ (x :: rest).length)
    (hv : readByte s.enc.out (s.enc.outPos / 8) = some v) (hk : s.enc.outPos + 8 ≤ 8 * s.enc.outBytes) {t : State}
    {c : Word} {out : List Byte}
    (h : execTxGetChunk (maxLen - 1) rest (s.withEnc (s.enc.seek (s.enc.outPos + 8))) = .next t)
    (hresult : t.host.result = some (.chunk c out)) :
    execTxGetChunk maxLen (x :: rest) s = .next (t.withResult (.chunk (c + 1) (v :: out))) := by
  have hsub : (maxLen - 1).toNat = maxLen.toNat - 1 := by bv_omega
  obtain ⟨n, hn⟩ := Nat.exists_eq_succ_of_ne_zero hpos.ne'
  have hp' : txPage (s.withEnc (s.enc.seek (s.enc.outPos + 8))) = .next pg :=
    (txPage_congr (s := s) (t := s.withEnc _) rfl rfl).trans hp
  rw [List.length_cons] at hbuf
  rw [execTxGetChunk_eq hp' (by rw [State.withEnc_enc, Enc.seek_outPos]; omega) (by omega) (by omega), hsub] at h
  obtain ⟨⟨bytes, e⟩, hbytes, h⟩ := andThen_eq_next h
  cases h
  rw [hn, Nat.succ_sub_one, State.withEnc_enc] at hbytes
  rw [hn, Nat.succ_sub_one] at hresult
  rw [execTxGetChunk_eq hp ha hmax (by rwa [List.length_cons]), hn, nextBytes_cons pg n ha hv hk, hbytes,
    andThen_next, andThen_next, chunkResult_cons n v x rest bytes e (Option.some.inj hresult)]
  rfl

end

/-- Settles O48: the stored bytes are delivered, and behind them the chunk is full, or the page has ended; else a pull,
or a byte and the chunk behind it. -/
theorem getChunkDelivers : Obligations.GetChunkDelivers := by
  intro s m w b maxLen buf bytes h ha hmax hbuf
  have hp := txPage_of_inTxPage h
  refine ⟨fun hlen hk hv => ?_, fun hlen hend hwhole hd hv => ?_, fun hpos hend hd => ?_, fun hw hpos hend hd => ?_, ?_⟩
  · have hbytes := nextBytes_append (txPageOf s m w b) 0 bytes ha (hlen ▸ hk) (hlen ▸ hv)
    rw [Nat.add_zero, hlen] at hbytes
    change execTxGetChunk maxLen buf s = _
    rw [execTxGetChunk_eq hp ha hmax hbuf, hbytes, Enc.nextBytes, andThen_next, andThen_next, List.append_nil,
      chunkResult_full hlen hmax]
    rfl
  · obtain ⟨n, hn⟩ := Nat.exists_eq_add_of_le hlen.le
    have hbytes := nextBytes_append (txPageOf s m w b) n bytes ha (hwhole ▸ hend.ge) hv
    rw [← hn, ← hend, nextBytes_end (e := s.enc.seek s.enc.emitted) _ n le_rfl hd, andThen_next,
      List.append_nil] at hbytes
    change execTxGetChunk maxLen buf s = _
    rw [execTxGetChunk_eq hp ha hmax hbuf, hbytes, andThen_next, chunkResult_short hlen hmax]
    rfl
  · change execTxGetChunk maxLen buf s = _
    rw [execTxGetChunk_eq hp ha hmax hbuf, nextBytes_end _ _ hend hd, andThen_next, chunkResult_short hpos hmax,
      List.length_nil, BitVec.zero_or, List.nil_append, List.drop_zero]
    rfl
  · change execTxGetChunk maxLen buf s = _
    rw [execTxGetChunk_eq hp ha hmax hbuf, nextBytes_pull hw hpos hend hd, andThen_assoc]
    refine andThen_congr fun e he => ?_
    obtain ⟨hp', hpos'⟩ := pull_samePage h hd he
    change _ = execTxGetChunk maxLen buf (s.withEnc e)
    rw [execTxGetChunk_eq hp' (hpos' ▸ ha) hmax hbuf]
    rfl
  · rintro v x rest t c out rfl hpos hv hk h hresult
    exact execTxGetChunk_cons hp ha hmax hpos hbuf hv hk h hresult

end Sys2Proof.Machine
end

section
/-! PROOFS. The scanner is exact (R120 to R124, R79): the runs of a row give back its pixels, and so do its packed
bytes. -/

namespace Sys2Proof.Machine

/-! ## Runs (R121, R124) -/

theorem flip_eq_of_ne {p c : Color} (h : p ≠ c) : c.flip = p := by cases p <;> cases c <;> simp_all [Color.flip]

/-- The runs of a row expand to its pixels, behind those counted so far. -/
theorem spans_runsFrom (c : Color) (n : Nat) (ps : List Color) :
    spans c (runsFrom c n ps) = List.replicate n c ++ ps := by
  induction ps generalizing c n with
  | nil => rfl
  | cons p ps ih =>
    unfold runsFrom
    split
    · rename_i hp
      rw [ih, hp, List.replicate_succ', List.append_assoc, List.singleton_append]
    · rename_i hp
      rw [spans, ih, flip_eq_of_ne hp]
      rfl

/-- Only the first run of a row can be 0. -/
theorem one_le_of_mem_tail_runsFrom (c : Color) (n : Nat) (ps : List Color) :
    (∀ r ∈ (runsFrom c n ps).tail, 1 ≤ r) ∧ (1 ≤ n → ∀ r ∈ runsFrom c n ps, 1 ≤ r) := by
  induction ps generalizing c n with
  | nil => simp [runsFrom]
  | cons p ps ih =>
    unfold runsFrom
    split
    · exact ⟨(ih c (n + 1)).1, fun _ => (ih c (n + 1)).2 (Nat.succ_pos n)⟩
    · have hlater := (ih c.flip 1).2 le_rfl
      exact ⟨hlater, fun hn r hr => (List.mem_cons.mp hr).elim (fun h => h ▸ hn) (hlater r)⟩

/-- The runs of a row of pixels expand to the row (R121, R124). -/
theorem expand_runsOf (px : List Color) : expand (runsOf px) px.length = px :=
  (expand_of_sum_eq (sum_runsOf px)).trans (spans_runsFrom .white 0 px)

theorem length_unpack (row : List Byte) (w : Nat) : (unpack row w).length = w := by simp [unpack]

/-! ## Packed rows (R123) -/

/-- The value of the bits `p 0` to `p (n - 1)`, the first one the most significant. -/
def bitsValue (p : Nat → Bool) (n : Nat) : Nat := ((List.range n).map fun k => if p k then 2 ^ (n - 1 - k) else 0).sum

theorem bitsValue_succ (p : Nat → Bool) (n : Nat) :
    bitsValue p (n + 1) = 2 ^ n * (p 0).toNat + bitsValue (fun k => p (k + 1)) n := by
  have hlow (k : Nat) : n + 1 - 1 - (k + 1) = n - 1 - k := by omega
  simp only [bitsValue, List.range_succ_eq_map, List.map_cons, List.map_map, List.sum_cons, Function.comp_def, hlow]
  cases p 0 <;> simp

theorem bitsValue_lt (p : Nat → Bool) (n : Nat) : bitsValue p n < 2 ^ n := by
  induction n generalizing p with
  | zero => exact Nat.one_pos
  | succ n ih =>
    have := ih fun k => p (k + 1)
    have hbit : 2 ^ n * (p 0).toNat ≤ 2 ^ n * 1 := Nat.mul_le_mul_left _ (Bool.toNat_le _)
    rw [bitsValue_succ, Nat.pow_succ]
    omega

theorem testBit_bitsValue (p : Nat → Bool) {n k : Nat} (hk : k < n) : (bitsValue p n).testBit (n - 1 - k) = p k := by
  induction n generalizing p k with
  | zero => exact absurd hk (Nat.not_lt_zero k)
  | succ n ih =>
    rw [bitsValue_succ, Nat.testBit_two_pow_mul_add _ (bitsValue_lt _ n)]
    cases k with
    | zero => cases p 0 <;> simp
    | succ k =>
      have hlow : n + 1 - 1 - (k + 1) = n - 1 - k := by omega
      rw [hlow, if_pos (by omega), ih _ (Nat.lt_of_succ_lt_succ hk)]

/-- A bit of a packed byte is its pixel (R123): the leftmost pixel is bit 7. -/
theorem getLsbD_packByte (px : List Color) (j : Nat) {k : Nat} (hk : k < 8) :
    (packByte px j).getLsbD (7 - k) = decide (px.getD (8 * j + k) .white = .black) := by
  have hvalue : packByte px j =
      BitVec.ofNat 8 (bitsValue (fun i => decide (px.getD (8 * j + i) .white = .black)) 8) := by
    simp only [packByte, bitsValue, decide_eq_true_eq]
  rw [hvalue, BitVec.getLsbD_ofNat, decide_eq_true (by omega : 7 - k < 8), Bool.true_and]
  exact testBit_bitsValue _ hk

/-- A bit of a packed row is its pixel, and a pad bit is 0 (R79, R123). -/
theorem getLsbD_pack (px : List Color) {i : Nat} (hi : i < 8 * bytesPerRow px.length) :
    ((pack px).getD (i / 8) 0).getLsbD (7 - i % 8) = decide (px.getD i .white = .black) := by
  have hj : i / 8 < (pack px).length := by rw [pack_length]; omega
  rw [List.getD_eq_getElem _ _ hj]
  simp only [pack, List.getElem_map, List.getElem_range]
  rw [getLsbD_packByte px _ (Nat.mod_lt _ (by decide)), Nat.div_add_mod]

theorem unpack_pack (px : List Color) : unpack (pack px) px.length = px := by
  refine List.ext_getElem (length_unpack ..) fun i hi hpx => ?_
  have hbyte : i < 8 * bytesPerRow px.length := by rw [bytesPerRow]; omega
  simp only [unpack, List.getElem_map, List.getElem_range]
  rw [getLsbD_pack px hbyte, List.getD_eq_getElem _ _ hpx]
  cases px[i] <;> rfl

/-- Settles O57: the runs by induction on the pixels, the packed row bit by bit. -/
theorem scannerIsExact : Obligations.ScannerIsExact := by
  refine ⟨fun row w => ⟨sum_runLengthsOfRow row w, (one_le_of_mem_tail_runsFrom ..).1, ?_, ?_⟩,
    fun px => ⟨pack_length px, unpack_pack px, fun i hi hbyte => ?_⟩⟩
  · exact (length_runsOf_le _).trans_eq (by rw [length_unpack])
  · have := expand_runsOf (unpack row w)
    rwa [length_unpack] at this
  · rw [getLsbD_pack px hbyte, List.getD_eq_default _ _ hi]
    rfl

end Sys2Proof.Machine
end

section
/-! PROOFS. Refusals by an operand, the cursor or a missing configuration (R76, R283, R287, R293, R303, R306, R330), and
the growth of `IMG` at a commit (R81, R272). -/

namespace Sys2Proof.Machine

/-! ## Refusals -/

theorem widthAdmitted_of_bad {p : Params} {x : Word} (h : x.toNat = 0 ∨ p.wMax < x.toNat) :
    widthAdmitted p x = false := by
  simp only [widthAdmitted, Bool.and_eq_false_iff, decide_eq_false_iff_not]
  omega

theorem setterAdmitted_of_ne {life : Life} (h : life ≠ .uninit) : setterAdmitted life = true := bne_iff_ne.mpr h

theorem setWidth_refused {s : State} {x : Word} (hx : x.toNat = 0 ∨ s.par.wMax < x.toNat) :
    (s.enc.life ≠ .uninit → execTxSetWidth x s = .refused .widthRange) ∧
      (s.dec.life ≠ .uninit → execRxSetWidth x s = .refused .widthRange) := by
  refine ⟨fun hl => ?_, fun hl => ?_⟩
  · rw [execTxSetWidth, setterAdmitted_of_ne hl, admitIf_true, widthAdmitted_of_bad hx, admitIf_false]
  · rw [execRxSetWidth, setterAdmitted_of_ne hl, admitIf_true, widthAdmitted_of_bad hx, admitIf_false]

/-- At a cursor inside a byte no byte is delivered (R76). -/
theorem getBytes_unaligned {s : State} {pg : TxPage} (hp : txPage s = .next pg) (ha : s.enc.outPos % 8 ≠ 0) (x : Word)
    (buf : List Byte) : execTxGetByte s = .refused .unaligned ∧ execTxGetChunk x buf s = .refused .unaligned := by
  have hcursor : (s.enc.outPos % 8 == 0) = false := beq_false_of_ne ha
  refine ⟨?_, ?_⟩
  · rw [execTxGetByte, hp, andThen_next, hcursor, admitIf_false]
  · rw [execTxGetChunk, hp, andThen_next, hcursor, admitIf_false]

theorem getChunk_chunkRange {s : State} {pg : TxPage} (hp : txPage s = .next pg) (ha : s.enc.outPos % 8 = 0) {x : Word}
    (hx : 2 ^ 31 ≤ x.toNat) (buf : List Byte) : execTxGetChunk x buf s = .refused .chunkRange := by
  rw [execTxGetChunk, hp, andThen_next, beq_iff_eq.mpr ha, admitIf_true, decide_eq_false (Nat.not_lt.mpr hx),
    admitIf_false]

theorem txStartPage_unconfigured {s : State} (hl : s.enc.life = .idle)
    (h : s.enc.cfg.mode = none ∨ s.enc.cfg.width = none ∨ (s.enc.cfg.mode = some .t42d ∧ s.enc.cfg.yres = none)) :
    execTxStartPage s = .refused .unconfigured := by
  have hcfg : s.enc.cfg.startable = false := by
    rcases h with hm | hw | ⟨hm, hy⟩
    · simp [TxCfg.startable, hm]
    · simp [TxCfg.startable, hw]
    · simp [TxCfg.startable, hm, hy]
  rw [execTxStartPage, beq_iff_eq.mpr hl, admitIf_true, hcfg, admitIf_false]

theorem rxStartPage_unconfigured {s : State} (hl : s.dec.life = .idle)
    (h : s.dec.cfg.mode = none ∨ s.dec.cfg.width = none) : execRxStartPage s = .refused .unconfigured := by
  have hcfg : s.dec.cfg.startable = false := by
    rcases h with hm | hw
    · simp [RxCfg.startable, hm]
    · simp [RxCfg.startable, hw]
  rw [execRxStartPage, beq_iff_eq.mpr hl, admitIf_true, hcfg, admitIf_false]

/-- Settles O25, refusal by refusal. -/
theorem badOperandsAreRefused : Obligations.BadOperandsAreRefused := by
  intro s x
  refine ⟨setWidth_refused, fun m w b buf h => ?_, txStartPage_unconfigured, rxStartPage_unconfigured⟩
  have hp := txPage_of_inTxPage h
  exact ⟨fun ha => getBytes_unaligned hp ha x buf, fun ha hx => getChunk_chunkRange hp ha hx buf⟩

/-! ## Growth at a commit -/

/-- With room for a row, the growth check does nothing (R272). -/
theorem growImage_of_room {pg : RxPage} {d : Dec} (h : d.rows ≠ d.imgCapRows) : d.growImage pg = (true, d) := if_neg h

/-- A full image asks the allocator (R81, R272). -/
theorem growImage_of_full {pg : RxPage} {d : Dec} {ok : Bool} {rest : List Bool} (hfull : d.rows = d.imgCapRows)
    (hscript : d.alloc.script = ok :: rest) :
    d.growImage pg = if ok then (true, { d with
        alloc := ⟨rest, d.alloc.draws + 1⟩, imgCapRows := d.imgCapRows + pg.imgGrow })
      else (false, { d with alloc := ⟨rest, d.alloc.draws + 1⟩, nomem := true }) := by
  cases ok <;> simp [Dec.growImage, hfull, Alloc.grow, hscript]

/-- Settles O42: granted, the commit stands before an image with room; refused, it ends. -/
theorem commitGrowsOrFails : Obligations.CommitGrowsOrFails := by
  intro pg d ok rest hfull hscript hgrow
  have hgrown := growImage_of_full (pg := pg) hfull hscript
  cases ok with
  | true =>
    have hroom : d.rows ≠ d.imgCapRows + pg.imgGrow := by omega
    rw [if_pos rfl] at hgrown ⊢
    rw [Dec.commitRow, Dec.commitRow, hgrown, growImage_of_room hroom]
  | false =>
    rw [if_neg Bool.false_ne_true] at hgrown ⊢
    rw [Dec.commitRow, hgrown]

end Sys2Proof.Machine
end

section
/-! PROOFS. Committed rows are never rewritten (R71, R276): every operation of a receive page adds rows behind the
committed ones, and nothing else but RX_INIT and RX_RELEASE writes `IMG`. -/

namespace Sys2Proof.Machine

/-- One decoder comes from another with every committed row as it was (R71, R276). -/
structure KeepsRows (w : Nat) (d t : Dec) : Prop where
  rows : d.rows ≤ t.rows
  bytes : ∀ a < d.rows * bytesPerRow w, readByte t.img a = readByte d.img a

namespace KeepsRows
variable {w : Nat} {a b c d t : Dec}

theorem of_eq (hrows : t.rows = d.rows) (himg : t.img = d.img) : KeepsRows w d t := ⟨hrows.ge, fun _ _ => by rw [himg]⟩

theorem refl (w : Nat) (d : Dec) : KeepsRows w d d := .of_eq rfl rfl

theorem trans (h : KeepsRows w a b) (k : KeepsRows w b c) : KeepsRows w a c where
  rows := h.rows.trans k.rows
  bytes i hi := (k.bytes i (hi.trans_le (Nat.mul_le_mul_right _ h.rows))).trans (h.bytes i hi)

end KeepsRows

/-! ## The row operations -/

/-- A commit stores its row behind the committed ones (R276). -/
theorem commitRow_keepsRows {pg : RxPage} {d t : Dec} (h : d.commitRow pg = .next t) : KeepsRows pg.w d t := by
  rcases commitRow_eq_next h with hg | ⟨d1, d2, data, hg, h2, -, -, rfl⟩
  · rcases growImage_cases pg d with ⟨_, hgrow⟩ | ⟨_, _, hgrow⟩ | ⟨_, _, hgrow⟩ <;> rw [hgrow] at hg <;> cases hg
    exact .of_eq rfl rfl
  · have hroom : KeepsRows pg.w d d1 := by
      rcases growImage_cases pg d with ⟨_, hgrow⟩ | ⟨_, _, hgrow⟩ | ⟨_, _, hgrow⟩ <;> rw [hgrow] at hg <;> cases hg <;>
        exact .of_eq rfl rfl
    obtain ⟨runs, full, rfl⟩ := closeRow_frame h2
    exact hroom.trans ⟨Nat.le_succ _, fun a ha => readByte_memWrite_below _ _ ha⟩

theorem t6RowEndCheck_keepsRows {pg : RxPage} {d t : Dec} (h : d.t6RowEndCheck pg = .next t) : KeepsRows pg.w d t := by
  rcases t6RowEndCheck_eq_next h with rfl | ⟨-, -, u, hu, rfl⟩
  · exact .refl ..
  · exact { commitRow_keepsRows hu with }

theorem hpairAdvance_keepsRows {pg : RxPage} {d t : Dec} (h : d.hpairAdvance pg = .next t) : KeepsRows pg.w d t := by
  rcases hpairAdvance_eq_next h with ⟨-, rfl⟩ | ⟨-, rfl⟩ | ⟨-, h⟩
  · exact .refl ..
  · exact .of_eq rfl rfl
  · exact { t6RowEndCheck_keepsRows h with }

theorem terminate_keepsRows {pg : RxPage} {n : Nat} {d t : Dec} (h : d.terminate n pg = .next t) :
    KeepsRows pg.w d t := by
  obtain ⟨u, hu, h⟩ := terminate_eq_next h
  obtain ⟨runs, full, rfl⟩ := appendRun_frame hu
  rcases h with ⟨-, rfl⟩ | ⟨-, h⟩
  · exact .of_eq rfl rfl
  · exact { hpairAdvance_keepsRows h with }

theorem pass_keepsRows {pg : RxPage} {d t : Dec} (h : d.pass pg = .next t) : KeepsRows pg.w d t := by
  rcases pass_eq_next h with ⟨-, rfl⟩ | ⟨-, -, h⟩
  · exact .of_eq rfl rfl
  · exact { t6RowEndCheck_keepsRows h with }

theorem vertical_keepsRows {pg : RxPage} {off : Int} {d t : Dec} (h : d.vertical off pg = .next t) :
    KeepsRows pg.w d t := by
  rcases vertical_eq_next h with ⟨-, rfl⟩ | ⟨-, u, hu, h⟩
  · exact .of_eq rfl rfl
  · obtain ⟨runs, full, rfl⟩ := appendRun_frame hu
    exact { t6RowEndCheck_keepsRows h with }

theorem eol_keepsRows {pg : RxPage} {tag : Option Bool} {d t : Dec} (h : d.eol tag pg = .next t) :
    KeepsRows pg.w d t := by
  obtain ⟨u, hu, rfl⟩ := eol_eq_next h
  rcases eolRow_eq_next hu with ⟨-, rfl⟩ | ⟨-, -, v, hv, rfl⟩ | ⟨-, -, rfl⟩
  · exact .of_eq rfl rfl
  · exact { commitRow_keepsRows hv with }
  · exact .of_eq rfl rfl

/-- A code word keeps the committed rows. -/
theorem CodeStep.keepsRows {pg : RxPage} {d t : Dec} {i : Instr} (h : CodeStep pg d i t) : KeepsRows pg.w d t := by
  cases h with
  | terminating _ h => exact { terminate_keepsRows h with }
  | makeup _ h =>
    obtain ⟨-, rfl⟩ := addRun_eq_next h
    exact .of_eq rfl rfl
  | vertical _ h => exact { vertical_keepsRows h with }
  | pass h => exact { pass_keepsRows h with }
  | horiz | ext2d | null2d => exact .of_eq rfl rfl
  | eol h | eol1 h | eol0 h => exact eol_keepsRows h

/-! ## Decisions -/

/-- Operations of a receive page: they leave the page open and keep its committed rows. -/
structure PageKeeps (s t : State) : Prop where
  page : rxPage t = rxPage s
  rows : ∀ pg, rxPage s = .next pg → KeepsRows pg.w s.dec t.dec

theorem PageKeeps.refl (s : State) : PageKeeps s s := ⟨rfl, fun _ _ => .refl ..⟩

theorem PageKeeps.trans {s t u : State} (h : PageKeeps s t) (k : PageKeeps t u) : PageKeeps s u :=
  ⟨k.page.trans h.page, fun pg hp => (h.rows pg hp).trans (k.rows pg (h.page.trans hp))⟩

/-- A row operation of a state's page that keeps the committed rows. -/
theorem pageKeeps_of_withDec {s : State} {pg : RxPage} {d : Dec} (hp : rxPage s = .next pg)
    (hsetup : d.setup = s.dec.setup) (h : KeepsRows pg.w s.dec d) : PageKeeps s (s.withDec d) := by
  refine ⟨rxPage_congr (s := s) (t := s.withDec d) rfl hsetup, fun pg' hp' => ?_⟩
  obtain rfl : pg = pg' := Host.Outcome.next.inj (hp.symm.trans hp')
  exact h

theorem decide1_pageKeeps {s t : State} (h : decide1 s = .next t) : PageKeeps s t := by
  have hsetup := (decide1_keeps h).1.setup
  rw [decide1_eq] at h
  split at h
  · rename_i i hi
    obtain ⟨pg, d, hp, rfl, hstep⟩ := exec_readsCode (isCodeWord_of_decision hi) h
    exact pageKeeps_of_withDec hp hsetup hstep.keepsRows
  all_goals
    obtain ⟨pg, d, hp, hd, rfl⟩ := onRow_eq_next h
    cases hd
    exact pageKeeps_of_withDec hp hsetup (.of_eq rfl rfl)

/-- A loop of decisions keeps what one decision keeps (R201, R241). -/
theorem loop_pageKeeps {goesOn : Dec → Bool} {loop : Nat → State → Res State} (hzero : ∀ s, loop 0 s = .next s)
    (hsucc : ∀ n s, loop (n + 1) s = if goesOn s.dec then andThen (decide1 s) (loop n) else .next s) (fuel : Nat)
    {s t : State} (h : loop fuel s = .next t) : PageKeeps s t := by
  induction fuel generalizing s with
  | zero =>
    cases (hzero s).symm.trans h
    exact .refl _
  | succ fuel ih =>
    rw [hsucc] at h
    split at h
    · obtain ⟨u, hu, h⟩ := andThen_eq_next h
      exact (decide1_pageKeeps hu).trans (ih h)
    · cases h
      exact .refl _

theorem decisionLoop_pageKeeps (fuel : Nat) {s t : State} (h : decisionLoop fuel s = .next t) : PageKeeps s t :=
  loop_pageKeeps (goesOn := Dec.ready) (fun _ => rfl) (fun _ _ => rfl) fuel h

theorem drainLoop_pageKeeps (fuel : Nat) {s t : State} (h : drainLoop fuel s = .next t) : PageKeeps s t :=
  loop_pageKeeps (goesOn := Dec.drains) (fun _ => rfl) (fun _ _ => rfl) fuel h

theorem decodeBits_pageKeeps {bits : List Bool} {s t : State} (h : decodeBits bits s = .next t) : PageKeeps s t := by
  induction bits generalizing s with
  | nil =>
    cases h
    exact .refl _
  | cons b bits ih =>
    obtain ⟨u, hu, h⟩ := andThen_eq_next h
    refine PageKeeps.trans ?_ (ih h)
    unfold decodeBit at hu
    split at hu
    · cases hu
      exact .refl _
    · split at hu
      · have happend : PageKeeps s (s.withDec (s.dec.append b)) := ⟨rfl, fun _ _ => .of_eq rfl rfl⟩
        exact happend.trans (decisionLoop_pageKeeps _ hu)
      · cases hu

theorem commitPartial_pageKeeps {s t : State} (h : commitPartial s = .next t) : PageKeeps s t := by
  have hsetup := (commitPartial_runs h).setup
  unfold commitPartial at h
  split at h
  · obtain ⟨pg, d, hp, hd, rfl⟩ := onRow_eq_next h
    exact pageKeeps_of_withDec hp hsetup (commitRow_keepsRows hd)
  · cases h
    exact .refl _

/-! ## Commands -/

theorem width_of_rxPage {s : State} {pg : RxPage} {w : Word} (hp : rxPage s = .next pg)
    (hw : s.dec.pcfg.width = some w) : pg.w = w.toNat := by
  obtain ⟨-, m, w', -, hw', rfl⟩ := rxPage_eq_next hp
  rw [Option.some.inj (hw.symm.trans hw')]

theorem putBits_keepsRows {bits : List Bool} {s t : State} {w : Word} (hw : s.dec.pcfg.width = some w)
    (h : putBits bits s = .next t) : KeepsRows w.toNat s.dec t.dec := by
  obtain ⟨pg, hp, h⟩ := andThen_eq_next h
  obtain ⟨u, hu, h⟩ := andThen_eq_next h
  cases h
  rw [← width_of_rxPage hp hw]
  exact { (decodeBits_pageKeeps hu).rows pg hp with }

theorem execRxEndPage_keepsRows {s t : State} {w : Word} (hw : s.dec.pcfg.width = some w)
    (h : execRxEndPage s = .next t) : KeepsRows w.toNat s.dec t.dec := by
  obtain ⟨pg, hp, h⟩ := andThen_eq_next h
  obtain ⟨u, hu, h⟩ := andThen_eq_next h
  obtain ⟨v, hv, h⟩ := andThen_eq_next h
  obtain ⟨st, -, h⟩ := andThen_eq_next h
  cases h
  rw [← width_of_rxPage hp hw]
  exact { ((drainLoop_pageKeeps _ hu).trans (commitPartial_pageKeeps hv)).rows pg hp with }

/-- A receive command that leaves the page buffer in place keeps its committed rows, opening a page included (R306). -/
theorem exec_rx_keepsBytes {i : Instr} {s t : State} {w : Word} (htx : isTx i = false) (hcode : isCodeWord i = false)
    (hinit : i ≠ .rxInit) (hrelease : i ≠ .rxRelease) (hw : s.dec.pcfg.width = some w) (h : exec i s = .next t) :
    ∀ a < s.dec.rows * bytesPerRow w.toNat, readByte t.dec.img a = readByte s.dec.img a := by
  cases i with
  | rxInit => exact absurd rfl hinit
  | rxRelease => exact absurd rfl hrelease
  | rxSetMode mode =>
    obtain ⟨-, h⟩ := admitIf_eq_next h
    split at h <;> cases h
    exact fun _ _ => rfl
  | rxSetWidth width =>
    obtain ⟨-, h⟩ := admitIf_eq_next h
    obtain ⟨-, h⟩ := admitIf_eq_next h
    cases h
    exact fun _ _ => rfl
  | rxSetXres code | rxSetYres code =>
    obtain ⟨-, h⟩ := admitIf_eq_next h
    cases h
    exact fun _ _ => rfl
  | rxStartPage =>
    obtain ⟨-, h⟩ := admitIf_eq_next h
    obtain ⟨-, h⟩ := admitIf_eq_next h
    split at h <;> cases h <;> exact fun _ _ => rfl
  | rxEndPage => exact (execRxEndPage_keepsRows hw h).bytes
  | rxPutBit bit => exact (putBits_keepsRows hw h).bytes
  | rxPutByte byte => exact (putBits_keepsRows hw h).bytes
  | rxPutChunk len buf =>
    obtain ⟨-, h⟩ := admitIf_eq_next h
    obtain ⟨-, h⟩ := admitIf_eq_next h
    exact (putBits_keepsRows hw h).bytes
  | rxGetStats =>
    obtain ⟨-, h⟩ := admitIf_eq_next h
    cases h
    exact fun _ _ => rfl
  | _ => first | exact Bool.noConfusion htx | exact Bool.noConfusion hcode

/-- Settles O44: a transmit command leaves the decoder alone, a code word stores behind the committed rows, and a
receive command is decisions and a commit. -/
theorem committedRowsAreNeverRewritten : Obligations.CommittedRowsAreNeverRewritten := by
  intro i s t w h hinit hrelease hw
  cases htx : isTx i with
  | true =>
    obtain ⟨-, -, hdec, -⟩ := exec_encOnly htx s t h
    exact fun _ _ => by rw [hdec]
  | false =>
    cases hcode : isCodeWord i with
    | true =>
      obtain ⟨pg, d, hp, rfl, hstep⟩ := exec_readsCode hcode h
      rw [← width_of_rxPage hp hw]
      exact hstep.keepsRows.bytes
    | false => exact exec_rx_keepsBytes htx hcode hinit hrelease hw h

end Sys2Proof.Machine
end

section
/-! PROOFS. The bit that fills the window runs one decision (R200 to R206, R229, R243, R308). -/

namespace Sys2Proof.Machine

/-! ## One decision -/

theorem decision_of_skip {d : Dec} (he : isEol d.view = false) (hs : 0 < d.skip) : d.decision = .skip := by
  simp [Dec.decision, he, hs]

theorem decision_of_hunt {d : Dec} (he : isEol d.view = false) (hs : d.skip = 0) (hc : d.eolCount = -1) :
    d.decision = .hunt := by
  simp [Dec.decision, he, hs, hc]

/-- Every code word of a colour has a 1 among its first eight bits (R101). -/
theorem runRows_not_zeros (c : Color) : ∀ r ∈ runRows c, r.win % 2 ^ min 8 r.len ≠ 0 := by cases c <;> decide

/-- Eight zeros begin no run code (R101, R229). -/
theorem lookupRow_zeros {c : Color} {win : BitVec 13} (h : win.toNat % 2 ^ 8 = 0) :
    lookupRow (runRows c) win = none := by
  cases hr : lookupRow (runRows c) win with
  | none => rfl
  | some r =>
    obtain ⟨hmem, hwin⟩ := lookupRow_mem hr
    refine absurd ?_ (runRows_not_zeros c r hmem)
    have hlen : 2 ^ min 8 r.len ∣ 2 ^ r.len := Nat.pow_dvd_pow 2 (Nat.min_le_right ..)
    have h8 : 2 ^ min 8 r.len ∣ 2 ^ 8 := Nat.pow_dvd_pow 2 (Nat.min_le_left ..)
    rw [← hwin, Nat.mod_mod_of_dvd _ hlen]
    exact Nat.mod_eq_zero_of_dvd (h8.trans (Nat.dvd_of_mod_eq_zero h))

theorem decision_of_unmatched {d : Dec} (he : isEol d.view = false) (hs : d.skip = 0) (hc : d.eolCount ≠ -1)
    (hrow : d.rowIs2d = false ∨ d.hpair ≠ .none) (hzero : d.view.toNat % 2 ^ 8 = 0) : d.decision = .unmatched := by
  have hcontext : d.context = .run d.color := by
    rw [context_eq_ite, if_neg]
    rintro ⟨h2d, hpair⟩
    rcases hrow with h | h
    · exact absurd (h2d.symm.trans h) (by decide)
    · exact h hpair
  simp [Dec.decision, he, hs, hc, hcontext, decodeCode, lookupRow_zeros hzero]

/-- The decision that the 13th bit brings is the only one (R201, R202). -/
theorem decodeBit_decides {s : State} (b : Bool) (hc : s.dec.complete = false) (hn : s.dec.nomem = false)
    (hw : s.dec.winCount = 12) (hp : s.dec.pageBits + 1 < 2 ^ 32) :
    decodeBit b s = decide1 (s.withDec (s.dec.append b)) := by
  have hready : (s.withDec (s.dec.append b)).dec.ready = true := by simp [Dec.ready, Config.winMin, hw, hc, hn]
  rw [decodeBit, if_neg (by simp [hc, hn]), if_pos (show counterFits s.dec.pageBits = true from decide_eq_true hp),
    decisionLoop, if_pos hready]
  refine (andThen_congr fun t ht => ?_).trans (andThen_next_right _)
  have hcount : t.dec.winCount ≤ 12 := (decide1_keeps ht).1.window.trans_eq (by simp [hw])
  have hwaits : ¬ Config.winMin ≤ t.dec.winCount := Nat.not_le.mpr (Nat.lt_succ_of_le hcount)
  exact decisionLoop_stop (by simp [Dec.ready, hwaits]) _

/-- The decoder's page, in the statements' terms. -/
theorem rxPage_of_inRxPage {s : State} {m : Mode} {w : Word} (h : InRxPage s m w) :
    rxPage s = .next (rxPageOf s m w) := by
  obtain ⟨hlife, hmode, hwidth⟩ := h
  exact rxPage_eq hlife hmode hwidth

/-- The status that ends a PUT command (R243). -/
def answerPut (t : State) : Res State := .next (t.withResult (.status (putStatus t.dec)))

/-- A PUT_BIT in a page: `invalid` cleared, the bit decoded, the status (R243, R308). -/
theorem execRxPutBit_eq {s : State} {pg : RxPage} (hp : rxPage s = .next pg) (b : Bool) :
    execRxPutBit b s = andThen (decodeBit b (s.withDec { s.dec with invalid := false })) answerPut := by
  rw [execRxPutBit, putBits, hp, andThen_next, decodeBits, andThen_assoc]
  rfl

/-- A bit that is no code word: the row operation, and the status (R205, R206, R229). -/
theorem onRow_status {s : State} {pg : RxPage} (hp : rxPage s = .next pg) (f : Dec → Dec)
    (hstatus : putStatus (f s.dec) = 0) :
    andThen (onRow s fun _ d => .next (f d)) answerPut = .next ((s.withDec (f s.dec)).withResult (.status 0)) := by
  rw [onRow_eq hp, andThen_next, andThen_next, answerPut, State.withDec_dec, hstatus]

section
variable {s : State} {m : Mode} {w : Word} {b : Bool} {d : Dec} (h : InRxPage s m w) (hw : s.dec.winCount = 12)
  (hc : s.dec.complete = false) (hn : s.dec.nomem = false) (hbits : s.dec.pageBits + 1 < 2 ^ 32)
  (hd : d = { s.dec with
    invalid := false, win := putBit s.dec.win 12 b, winCount := 13, pageBits := s.dec.pageBits + 1 })
include h hw hc hn hbits hd

/-- The PUT_BIT that fills the window (R200, R201, R308). -/
theorem putBit_fills : exec (.rxPutBit b) s = andThen (decide1 (s.withDec d)) answerPut := by
  have happend : Dec.append { s.dec with invalid := false } b = d := by
    rw [hd, Dec.append]
    simp only [hw]
  have hdecide := decodeBit_decides (s := s.withDec { s.dec with invalid := false }) b hc hn hw hbits
  rw [State.withDec_dec, happend] at hdecide
  change execRxPutBit b s = _
  rw [execRxPutBit_eq (rxPage_of_inRxPage h), hdecide]
  rfl

/-- A bit that fills the window and is no code word (R205, R206, R229): it leaves the window, and the status is
MORE_DATA. -/
theorem putBit_drops {f : Dec → Dec} (hdecide : decide1 (s.withDec d) = onRow (s.withDec d) fun _ d => .next (f d))
    (hstatus : putStatus (f d) = 0) : exec (.rxPutBit b) s = .next ((s.withDec (f d)).withResult (.status 0)) := by
  have hsetup : d.setup = s.dec.setup := by rw [hd]; rfl
  have hp : rxPage (s.withDec d) = .next (rxPageOf s m w) :=
    (rxPage_congr (s := s) (t := s.withDec d) rfl hsetup).trans (rxPage_of_inRxPage h)
  rw [putBit_fills h hw hc hn hbits hd, hdecide]
  exact onRow_status hp f hstatus

end

end Sys2Proof.Machine
end

section
/-! PROOFS. Nothing that runs in a receive page reads `invalid` or the last command's result (R48, R238, R243): raising
the one and replacing the other before an operation is the same as after it. -/

namespace Sys2Proof.Machine

/-- An operation before or after which a change of the state makes no difference, faults and refusals included. -/
def Commutes {σ : Type} (g : σ → σ) (f : σ → Res σ) : Prop := ∀ s, f (g s) = andThen (f s) fun t => .next (g t)

namespace Commutes
variable {σ α : Type} {g : σ → σ}

theorem answer {u : σ → σ} (hu : ∀ s, u (g s) = g (u s)) : Commutes g fun s => .next (u s) := fun s => by
  dsimp only
  rw [hu, andThen_next]

theorem fault (x : Fault) : Commutes g fun _ => .fault x := fun _ => rfl

theorem refused (x : Refusal) : Commutes g fun _ => .refused x := fun _ => rfl

/-- One operation after the other. -/
theorem seq {f f' : σ → Res σ} (hf : Commutes g f) (hf' : Commutes g f') : Commutes g fun s => andThen (f s) f' :=
  fun s => by
    dsimp only
    rw [hf s, andThen_assoc, andThen_assoc]
    exact andThen_congr fun t _ => hf' t

/-- An operation after an update that commutes. -/
theorem after {u : σ → σ} {f : σ → Res σ} (hf : Commutes g f) (hu : ∀ s, u (g s) = g (u s)) :
    Commutes g fun s => f (u s) :=
  fun s => by
    dsimp only
    rw [hu]
    exact hf (u s)

/-- What is done may depend on what the change leaves alone. -/
theorem depends {h : σ → α} {f : α → σ → Res σ} (hh : ∀ s, h (g s) = h s) (hf : ∀ a, Commutes g (f a)) :
    Commutes g fun s => f (h s) s := fun s => by
  dsimp only
  rw [hh]
  exact hf (h s) s

/-- A value that the change leaves alone is read first. -/
theorem bind {h : σ → Res α} {f : α → σ → Res σ} (hh : ∀ s, h (g s) = h s) (hf : ∀ a, Commutes g (f a)) :
    Commutes g fun s => andThen (h s) fun a => f a s :=
  depends (f := fun r s => andThen r fun a => f a s) hh fun r => by
    cases r with
    | next a => exact hf a
    | fault x => exact fault x
    | refused x => exact refused x

/-- A choice by a condition that the change leaves alone. -/
theorem ite {c : σ → Prop} [∀ s, Decidable (c s)] {f f' : σ → Res σ} (hc : ∀ s, c (g s) ↔ c s) (hf : Commutes g f)
    (hf' : Commutes g f') : Commutes g fun s => if c s then f s else f' s := fun s => by
  dsimp only
  by_cases h : c s
  · rw [if_pos h, if_pos ((hc s).mpr h), hf s]
  · rw [if_neg h, if_neg (mt (hc s).mp h), hf' s]

end Commutes

/-! ## The row operations -/

/-- The decoder with `invalid` raised, if `v`. -/
def Dec.mark (v : Bool) (d : Dec) : Dec := { d with invalid := d.invalid || v }

section
variable {v : Bool}

theorem appendRun_commutes (cap n : Nat) : Commutes (Dec.mark v) (Dec.appendRun cap n) :=
  .ite (fun _ => .rfl) (.fault _) <| .ite (fun _ => .rfl) (.answer fun _ => rfl) <|
    .ite (fun _ => .rfl) (.fault _) (.answer fun _ => rfl)

theorem addRun_commutes (n : Nat) : Commutes (Dec.mark v) (Dec.addRun n) :=
  .ite (fun _ => .rfl) (.fault _) (.answer fun _ => rfl)

theorem growImage_mark (pg : RxPage) (d : Dec) :
    (d.mark v).growImage pg = ((d.growImage pg).1, (d.growImage pg).2.mark v) := by
  by_cases hr : d.rows = d.imgCapRows
  · have hr' : (d.mark v).rows = (d.mark v).imgCapRows := hr
    have halloc : (d.mark v).alloc = d.alloc := rfl
    simp only [Dec.growImage, if_pos hr, if_pos hr', halloc]
    rcases d.alloc.grow Config.rxAllocAnswer with ⟨_ | _, a⟩ <;> rfl
  · rw [growImage_of_room hr]
    exact growImage_of_room hr

theorem closeRow_commutes (pg : RxPage) : Commutes (Dec.mark v) (Dec.closeRow pg) :=
  .ite (fun _ => .rfl) (.depends (h := Dec.runAcc) (fun _ => rfl) fun n => appendRun_commutes pg.runsCap n)
    (.answer fun _ => rfl)

theorem commitRow_commutes (pg : RxPage) : Commutes (Dec.mark v) (Dec.commitRow pg) := by
  have hstore : Commutes (Dec.mark v) fun d => andThen (d.closeRow pg) fun d => andThen (d.rowData pg) fun data =>
      if counterFits d.rows then .next (d.storeRow pg data) else .fault .counterLimit :=
    .seq (closeRow_commutes pg) <| .bind (fun _ => rfl) fun _ =>
      .ite (fun _ => .rfl) (.answer fun _ => rfl) (.fault _)
  intro d
  rw [Dec.commitRow, Dec.commitRow, growImage_mark]
  rcases d.growImage pg with ⟨_ | _, d1⟩
  · rfl
  · exact hstore d1

theorem t6RowEndCheck_commutes (pg : RxPage) : Commutes (Dec.mark v) (Dec.t6RowEndCheck pg) :=
  .ite (fun _ => .rfl) (.seq (commitRow_commutes pg) (.answer fun _ => rfl)) (.answer fun _ => rfl)

theorem pass_commutes (pg : RxPage) : Commutes (Dec.mark v) (Dec.pass pg) := by
  have hvalid (x : Int × Nat) : Commutes (Dec.mark v) fun d => andThen (d.addRun x.2) fun d' =>
      { d' with a0 := x.1 }.t6RowEndCheck pg :=
    .seq (addRun_commutes x.2) ((t6RowEndCheck_commutes pg).after fun _ => rfl)
  exact .ite (fun _ => .rfl) (.answer fun _ => rfl) <|
    .depends (g := Dec.mark v) (h := fun d => ((d.b2 pg : Int), (d.b2 pg - d.start).toNat)) (fun _ => rfl) hvalid

theorem vertical_commutes (off : Int) (pg : RxPage) : Commutes (Dec.mark v) (Dec.vertical off pg) := by
  have hvalid (x : Int × Nat × Color) : Commutes (Dec.mark v) fun d => andThen (d.appendRun pg.runsCap x.2.1) fun d' =>
      { d' with runAcc := 0, a0 := x.1, color := x.2.2 }.t6RowEndCheck pg :=
    .seq (appendRun_commutes pg.runsCap x.2.1) ((t6RowEndCheck_commutes pg).after fun _ => rfl)
  exact .ite (fun _ => .rfl) (.answer fun _ => rfl) <|
    .depends (g := Dec.mark v)
      (h := fun d => ((d.b1 pg : Int) + off, d.runAcc + (d.b1 pg + off - d.start).toNat, d.color.flip))
      (fun _ => rfl) hvalid

theorem hpairAdvance_commutes (pg : RxPage) : Commutes (Dec.mark v) (Dec.hpairAdvance pg) := by
  intro d
  have hpair : (d.mark v).hpair = d.hpair := rfl
  rw [Dec.hpairAdvance, Dec.hpairAdvance, hpair]
  cases d.hpair with
  | none | first => rfl
  | second => exact t6RowEndCheck_commutes pg { d with hpair := .none, a0 := d.curRuns.sum }

theorem terminate_commutes (n : Nat) (pg : RxPage) : Commutes (Dec.mark v) (Dec.terminate n pg) := by
  have hclosed (c : Color) : Commutes (Dec.mark v) fun d =>
      if d.rowIs2d then { d with runAcc := 0, color := c, codes := d.codes + 1 }.hpairAdvance pg
      else .next { d with runAcc := 0, color := c } :=
    .ite (fun _ => .rfl) ((hpairAdvance_commutes pg).after fun _ => rfl) (.answer fun _ => rfl)
  have hrun (x : Nat × Color) := (appendRun_commutes (v := v) pg.runsCap x.1).seq (hclosed x.2)
  exact .depends (g := Dec.mark v) (h := fun d => (d.runAcc + n, d.color.flip)) (fun _ => rfl) hrun

theorem eolRow_commutes (pg : RxPage) : Commutes (Dec.mark v) (Dec.eolRow pg) :=
  .ite (fun _ => .rfl) (.answer fun _ => rfl) <|
    .ite (fun _ => .rfl) (.seq (commitRow_commutes pg) (.answer fun _ => rfl)) (.answer fun _ => rfl)

theorem eol_commutes (tag : Option Bool) (pg : RxPage) : Commutes (Dec.mark v) (Dec.eol tag pg) :=
  .seq ((eolRow_commutes pg).after fun _ => rfl) (.answer fun _ => rfl)

end

/-! ## Decisions -/

/-- The state with `invalid` raised, if `v`, and another last result. -/
def State.mark (v : Bool) (r : Option CmdResult) (s : State) : State :=
  { s with dec := s.dec.mark v, host := { s.host with result := r } }

section
variable {v : Bool} {r : Option CmdResult}

theorem onRow_commutes {f : RxPage → Dec → Res Dec} (hf : ∀ pg, Commutes (Dec.mark v) (f pg)) :
    Commutes (State.mark v r) fun s => onRow s f := fun s => by
  have hpage : rxPage (s.mark v r) = rxPage s := rfl
  have hdec : (s.mark v r).dec = s.dec.mark v := rfl
  simp only [onRow, hpage, hdec, andThen_assoc]
  refine andThen_congr fun pg _ => ?_
  rw [hf pg s.dec, andThen_assoc]
  rfl

theorem onRow_answer_commutes {f : RxPage → Dec → Dec} (hf : ∀ pg d, f pg (d.mark v) = (f pg d).mark v) :
    Commutes (State.mark v r) fun s => onRow s fun pg d => .next (f pg d) := onRow_commutes fun pg => .answer (hf pg)

theorem terminatingCode_commutes (w n : Nat) : Commutes (State.mark v r) (terminatingCode w n) :=
  onRow_commutes fun pg => (terminate_commutes n pg).after fun _ => rfl

theorem makeupCode_commutes (w n : Nat) : Commutes (State.mark v r) (makeupCode w n) :=
  onRow_commutes fun _ => (addRun_commutes n).after fun _ => rfl

theorem verticalCode_commutes (w : Nat) (off : Int) : Commutes (State.mark v r) (verticalCode w off) :=
  onRow_commutes fun pg => (vertical_commutes off pg).after fun _ => rfl

/-- A code word neither reads `invalid` nor the last result. -/
theorem exec_codeWord_commutes {i : Instr} (hi : isCodeWord i = true) : Commutes (State.mark v r) (exec i) := by
  cases i with
  | pass => exact onRow_commutes fun pg => (pass_commutes pg).after (u := Dec.matchedMode 4) fun _ => rfl
  | horiz => exact onRow_answer_commutes (f := fun _ d => { d.matchedMode 3 with hpair := .first }) fun _ _ => rfl
  | ext2d => exact onRow_answer_commutes (f := fun _ d => (d.matchedMode 7).log .ext) fun _ _ => rfl
  | null2d => exact onRow_answer_commutes (f := fun _ d => d.dropUnmatched .null) fun _ _ => rfl
  | eol =>
    exact onRow_commutes fun pg => .depends
      (h := fun d : Dec => if pg.mode = .t42d then some (d.view.getLsbD 12) else none) (f := fun tag d => d.eol tag pg)
      (fun _ => rfl) fun tag => eol_commutes tag pg
  | eol1 => exact onRow_commutes fun pg => eol_commutes (some true) pg
  | eol0 => exact onRow_commutes fun pg => eol_commutes (some false) pg
  | v0 | vr1 | vr2 | vr3 | vl1 | vl2 | vl3 => exact verticalCode_commutes _ _
  | wm64 | wm128 | wm192 | wm256 | wm320 | wm384 | wm448 | wm512 | wm576 | wm640 | wm704 | wm768 | wm832 | wm896 |
    wm960 | wm1024 | wm1088 | wm1152 | wm1216 | wm1280 | wm1344 | wm1408 | wm1472 | wm1536 | wm1600 | wm1664 |
    wm1728 | bm64 | bm128 | bm192 | bm256 | bm320 | bm384 | bm448 | bm512 | bm576 | bm640 | bm704 | bm768 | bm832 |
    bm896 | bm960 | bm1024 | bm1088 | bm1152 | bm1216 | bm1280 | bm1344 | bm1408 | bm1472 | bm1536 | bm1600 | bm1664
    | bm1728 | xm1792 | xm1856 | xm1920 | xm1984 | xm2048 | xm2112 | xm2176 | xm2240 | xm2304 | xm2368 | xm2432 |
    xm2496 | xm2560 => exact makeupCode_commutes _ _
  | _ => first | exact Bool.noConfusion hi | exact terminatingCode_commutes _ _

theorem decide1_commutes : Commutes (State.mark v r) decide1 := by
  intro s
  have hdec : (s.mark v r).dec.decision = s.dec.decision := rfl
  rw [decide1_eq, decide1_eq, hdec]
  cases hd : s.dec.decision with
  | code i => exact exec_codeWord_commutes (isCodeWord_of_decision hd) s
  | skip => exact onRow_answer_commutes (f := fun _ d => d.skipBit) (fun _ _ => rfl) s
  | hunt => exact onRow_answer_commutes (f := fun _ d => d.huntBit) (fun _ _ => rfl) s
  | unmatched => exact onRow_answer_commutes (f := fun _ d => d.dropUnmatched .bad1d) (fun _ _ => rfl) s

theorem decisionLoop_commutes (fuel : Nat) : Commutes (State.mark v r) (decisionLoop fuel) := by
  induction fuel with
  | zero => exact .answer fun _ => rfl
  | succ n ih => exact .ite (fun _ => .rfl) (.seq decide1_commutes ih) (.answer fun _ => rfl)

theorem decodeBit_commutes (b : Bool) : Commutes (State.mark v r) (decodeBit b) :=
  .ite (fun _ => .rfl) (.answer fun _ => rfl) <| .ite (fun _ => .rfl)
    (.depends (h := fun s : State => s.dec.winCount) (f := fun n s => decisionLoop (n + 1) (s.withDec (s.dec.append b)))
      (fun _ => rfl) fun n => (decisionLoop_commutes (n + 1)).after fun _ => rfl)
    (.fault _)

theorem decodeBits_commutes (bits : List Bool) : Commutes (State.mark v r) (decodeBits bits) := by
  induction bits with
  | nil => exact .answer fun _ => rfl
  | cons b bits ih => exact .seq (decodeBit_commutes b) ih

end

/-! ## PUT commands as their PUT_BITs (R75, R309, R310) -/

/-- The status does not depend on the last result. -/
theorem decodeBits_answerPut (bits : List Bool) (v : Bool) (r r' : Option CmdResult) (s : State) :
    andThen (decodeBits bits (s.mark v r)) answerPut = andThen (decodeBits bits (s.mark v r')) answerPut := by
  rw [decodeBits_commutes bits s, decodeBits_commutes bits s, andThen_assoc, andThen_assoc]
  rfl

/-- PUT_BITs one after the other decode the bits, with `invalid` gathered on the way. -/
theorem putAll_eq (bits : List Bool) (v : Bool) {s : State} {pg : RxPage} (hp : rxPage s = .next pg) :
    putAll bits v s = andThen (decodeBits bits (s.withDec { s.dec with invalid := v })) answerPut := by
  induction bits generalizing v s with
  | nil => rfl
  | cons b bits ih =>
    have hmark : s.withDec { s.dec with invalid := v } =
        (s.withDec { s.dec with invalid := false }).mark v s.host.result := rfl
    have hfirst : exec (.rxPutBit b) s = andThen (decodeBit b (s.withDec { s.dec with invalid := false })) answerPut :=
      execRxPutBit_eq hp b
    rw [putAll, hfirst, hmark, decodeBits, decodeBit_commutes b, andThen_assoc, andThen_assoc, andThen_assoc]
    refine andThen_congr fun u hu => ?_
    have hruns := decodeBit_runs hu
    have hpage : rxPage (u.withResult (.status (putStatus u.dec))) = .next pg :=
      (rxPage_congr hruns.par hruns.setup).trans hp
    rw [answerPut, andThen_next, andThen_next, ih _ hpage, Bool.or_comm]
    exact decodeBits_answerPut bits v _ _ u

/-- A PUT command in a page is its bits decoded, and their status (R308 to R310). -/
theorem exec_put_eq {i : Instr} {s : State} {pg : RxPage} (hi : isPut i = true) (hp : rxPage s = .next pg) :
    exec i s = putBits (putBitsOf i) s := by
  cases i with
  | rxPutBit bit => rfl
  | rxPutByte byte => rfl
  | rxPutChunk len buf =>
    obtain ⟨hlife, -⟩ := rxPage_eq_next hp
    change execRxPutChunk len buf s = _
    have hbuf : decide (len.toNat ≤ buf.length) = true := hi
    rw [execRxPutChunk, beq_iff_eq.mpr hlife, admitIf_true, hbuf, admitIf_true]
    rfl
  | _ => cases hi

/-- Settles O9: the 13th bit brings one decision, whose kind the window and the row decide; a PUT command of many bits
gathers `invalid` as its PUT_BITs do one by one. -/
theorem putBitRunsOneDecision : Obligations.PutBitRunsOneDecision := by
  refine ⟨fun s m w b d h hw hc hn hbits hd => ⟨fun i hi => ?_, fun he => ?_⟩, fun i s m w hi h => ?_⟩
  · have hfills := putBit_fills h hw hc hn hbits hd
    rw [decide1_eq, show (s.withDec d).dec.decision = .code i from hi] at hfills
    refine ⟨fun t ht => ?_, fun x hx => ?_⟩
    · rw [hfills]
      dsimp only
      rw [ht]
      rfl
    · rw [hfills]
      dsimp only
      rw [hx]
      rfl
  · have hview : d.view = d.win := view_eq_win (by rw [hd])
    have hstatus : putStatus d = 0 := by simp [hd, putStatus, hc, hn, statusMoreData]
    rw [← hview] at he
    subst hd
    refine ⟨fun hs => ?_, fun hs heol => ?_, fun hs heol hrow hzero => ?_⟩
    · refine putBit_drops h hw hc hn hbits rfl (f := Dec.skipBit) ?_ hstatus
      rw [decide1_eq, State.withDec_dec, decision_of_skip he hs]
    · refine putBit_drops h hw hc hn hbits rfl (f := Dec.huntBit) ?_ hstatus
      rw [decide1_eq, State.withDec_dec, decision_of_hunt he hs heol]
    · refine putBit_drops h hw hc hn hbits rfl (f := Dec.dropUnmatched .bad1d) ?_ hstatus
      rw [decide1_eq, State.withDec_dec, decision_of_unmatched he hs heol hrow (hview.symm ▸ hzero)]
  · have hp := rxPage_of_inRxPage h
    rw [exec_put_eq hi hp, putAll_eq _ _ hp, putBits, hp]
    rfl

end Sys2Proof.Machine
end

section
/-! PROOFS. The code tables (R91 to R101): each row is written as the encoder writes its code word, no window holds two code
words of one context, and what holds none of a colour is eight zeros. -/

namespace Sys2Proof

open Machine

/-! ## Bits and windows (R100) -/

theorem windowValue_append (a b : List Bool) : windowValue (a ++ b) = windowValue a + 2 ^ a.length * windowValue b := by
  induction a with
  | nil => simp [windowValue]
  | cons x a ih =>
    rw [List.cons_append, windowValue, windowValue, ih, List.length_cons, Nat.pow_succ]
    ring

theorem windowValue_lt (a : List Bool) : windowValue a < 2 ^ a.length := by
  induction a with
  | nil => exact Nat.one_pos
  | cons x a ih =>
    have := x.toNat_le
    rw [windowValue, List.length_cons, Nat.pow_succ]
    omega

/-- A bit string that begins another one spells the oldest bits of its window. -/
theorem windowValue_of_isPrefix {a b : List Bool} (h : a <+: b) : windowValue b % 2 ^ a.length = windowValue a := by
  obtain ⟨rest, rfl⟩ := h
  rw [windowValue_append, Nat.add_mul_mod_self_left, Nat.mod_eq_of_lt (windowValue_lt a)]

/-! ## The rows of the tables -/

/-- EOL as a row (R92). -/
def eolRow : CodeRow := ⟨.eol, 12, 0x800, 0⟩

/-- Does a row give the length and the window value of its code word as encoded? -/
def CodeRow.Written (r : CodeRow) : Prop := (codeBits r.instr).length = r.len ∧ windowValue (codeBits r.instr) = r.win

theorem written_of_map_eq {rows : List CodeRow} (hlen : rows.map (fun r => (codeBits r.instr).length) = rows.map CodeRow.len)
    (hwin : rows.map (fun r => windowValue (codeBits r.instr)) = rows.map CodeRow.win) : ∀ r ∈ rows, r.Written :=
  fun r hr => ⟨List.map_inj_left.mp hlen r hr, List.map_inj_left.mp hwin r hr⟩

theorem written_of_mem_runRows (c : Color) : ∀ r ∈ runRows c, r.Written := by
  cases c <;> exact written_of_map_eq rfl rfl

theorem written_of_mem_modeRows : ∀ r ∈ modeRows, r.Written := written_of_map_eq rfl rfl

theorem written_eolRow : eolRow.Written := ⟨rfl, rfl⟩

/-- Do two rows differ in the bits that both have? Then no window holds both. -/
def CodeRow.clash (a b : CodeRow) : Bool := a.win % 2 ^ min a.len b.len != b.win % 2 ^ min a.len b.len

/-- The code words of a colour and EOL differ in pairs (R101). -/
theorem clash_runRows (c : Color) : (runRows c ++ [eolRow]).Pairwise fun a b => a.clash b := by cases c <;> decide

/-- The mode codes and `Null` differ in pairs (R98, R99). -/
theorem clash_modeRows : modeRows.Pairwise fun a b => a.clash b := by decide

theorem not_matches_of_clash {a b : CodeRow} {win : BitVec 13} (h : a.clash b = true) (ha : a.matches win = true) :
    b.matches win = false := by
  rw [Bool.eq_false_iff]
  intro hb
  simp only [CodeRow.matches, beq_iff_eq, CodeRow.clash, bne_iff_ne] at ha hb h
  refine h ?_
  rw [← ha, ← hb, Nat.mod_mod_of_dvd _ (Nat.pow_dvd_pow 2 (Nat.min_le_left ..)),
    Nat.mod_mod_of_dvd _ (Nat.pow_dvd_pow 2 (Nat.min_le_right ..))]

/-- Where the rows differ in pairs, the row found is the one that the window holds (R100). -/
theorem lookupRow_eq_some_iff {rows : List CodeRow} (h : rows.Pairwise fun a b => a.clash b) {win : BitVec 13}
    {r : CodeRow} : lookupRow rows win = some r ↔ r ∈ rows ∧ r.matches win = true := by
  refine ⟨fun hr => ⟨List.mem_of_find?_eq_some hr, ?_⟩, fun ⟨hmem, hwin⟩ => ?_⟩
  · exact List.find?_some (p := fun r : CodeRow => r.matches win) hr
  obtain ⟨before, after, rfl⟩ := List.append_of_mem hmem
  obtain ⟨-, -, hbefore⟩ := List.pairwise_append.mp h
  refine List.find?_eq_some_iff_append.mpr ⟨hwin, before, after, rfl, fun a ha => ?_⟩
  have hclash := hbefore a ha r List.mem_cons_self
  rw [Bool.not_eq_true']
  by_contra hmatch
  rw [not_matches_of_clash hclash (by simpa using hmatch)] at hwin
  exact Bool.noConfusion hwin

/-- A window holds a row's code word where its oldest bits are the encoded ones (R100). -/
theorem CodeRow.Written.matches_iff {r : CodeRow} (h : r.Written) (win : BitVec 13) :
    r.matches win = true ↔ win.toNat % 2 ^ (codeBits r.instr).length = windowValue (codeBits r.instr) := by
  rw [h.1, h.2, CodeRow.matches, beq_iff_eq]

/-- What a table with rows that differ in pairs reads from a window (R100). -/
theorem exists_lookupRow_iff {rows : List CodeRow} (hwritten : ∀ r ∈ rows, r.Written)
    (hclash : rows.Pairwise fun a b => a.clash b) (win : BitVec 13) (i : Instr) :
    (∃ r, lookupRow rows win = some r ∧ r.instr = i) ↔
      i ∈ rows.map CodeRow.instr ∧ win.toNat % 2 ^ (codeBits i).length = windowValue (codeBits i) := by
  simp only [lookupRow_eq_some_iff hclash, List.mem_map]
  constructor
  · rintro ⟨r, ⟨hmem, hwin⟩, rfl⟩
    exact ⟨⟨r, hmem, rfl⟩, ((hwritten r hmem).matches_iff win).mp hwin⟩
  · rintro ⟨⟨r, hmem, rfl⟩, hwin⟩
    exact ⟨r, ⟨hmem, ((hwritten r hmem).matches_iff win).mpr hwin⟩, rfl⟩

/-! ## Decode and encode -/

theorem decodeCode_mode2d_eq_ok_iff (win : BitVec 13) (i : Instr) :
    decodeCode .mode2d win = .ok i ↔ ∃ r, lookupRow modeRows win = some r ∧ r.instr = i := by
  rw [decodeCode]
  cases lookupRow modeRows win <;> simp

theorem decodeCode_run_eq_ok_iff (c : Color) (win : BitVec 13) (i : Instr) :
    decodeCode (.run c) win = .ok i ↔ ∃ r, lookupRow (runRows c) win = some r ∧ r.instr = i := by
  rw [decodeCode]
  cases lookupRow (runRows c) win <;> simp

/-- The EOL of a page without tags (R92). -/
theorem decodeCode_eol_eq_ok_iff (win : BitVec 13) (i : Instr) :
    decodeCode (.eol false) win = .ok i ↔ i = .eol ∧ win.toNat % 2 ^ 12 = 0x800 := by
  rw [decodeCode, isEol]
  by_cases heol : win.toNat % 2 ^ 12 = 0x800
  · rw [if_pos (by simpa using heol), if_neg Bool.false_ne_true, Except.ok.injEq, and_iff_left heol, eq_comm]
  · rw [if_neg (by simpa using heol)]
    exact ⟨nofun, fun h => absurd h.2 heol⟩

/-- The two EOLs of a tagged page: the tag is the window's last bit (R92, R209). -/
theorem decodeCode_tagged_eq_ok_iff (win : BitVec 13) (i : Instr) :
    decodeCode (.eol true) win = .ok i ↔
      (i = .eol1 ∧ win.toNat % 2 ^ 13 = 0x1800) ∨ (i = .eol0 ∧ win.toNat % 2 ^ 13 = 0x800) := by
  have htag : win[12] = decide (win.toNat / 2 ^ 12 % 2 = 1) := by
    rw [BitVec.getElem_eq_testBit_toNat, Nat.testBit_eq_decide_div_mod_eq]
  rw [decodeCode, isEol]
  by_cases heol : win.toNat % 2 ^ 12 = 0x800
  · rw [if_pos (by simpa using heol), if_pos rfl]
    cases hbit : win[12] with
    | true =>
      have h1 : win.toNat % 2 ^ 13 = 0x1800 := by
        have := of_decide_eq_true (htag.symm.trans hbit)
        omega
      rw [h1]
      simp [eq_comm]
    | false =>
      have h0 : win.toNat % 2 ^ 13 = 0x800 := by
        have := of_decide_eq_false (htag.symm.trans hbit)
        omega
      rw [h0]
      simp [eq_comm]
  · rw [if_neg (by simpa using heol)]
    have h1 : win.toNat % 2 ^ 13 ≠ 0x1800 := by omega
    have h0 : win.toNat % 2 ^ 13 ≠ 0x800 := by omega
    exact ⟨nofun, fun h => h.elim (fun h => absurd h.2 h1) fun h => absurd h.2 h0⟩

/-- What a context decodes is the code word of the context that the window's oldest bits spell (R91, R100). -/
theorem decodeCode_eq_ok_iff (c : Context) (i : Instr) (win : BitVec 13) :
    decodeCode c win = .ok i ↔
      i ∈ wordsOf c ∧ win.toNat % 2 ^ (codeBits i).length = windowValue (codeBits i) := by
  match c with
  | .eol false =>
    rw [decodeCode_eol_eq_ok_iff, wordsOf, List.mem_singleton]
    refine and_congr_right ?_
    rintro rfl
    exact .rfl
  | .eol true =>
    rw [decodeCode_tagged_eq_ok_iff, wordsOf, List.mem_pair, or_and_right]
    refine or_congr (and_congr_right ?_) (and_congr_right ?_)
    · rintro rfl
      exact .rfl
    · rintro rfl
      exact .rfl
  | .mode2d =>
    rw [decodeCode_mode2d_eq_ok_iff]
    exact exists_lookupRow_iff written_of_mem_modeRows clash_modeRows win i
  | .run color =>
    rw [decodeCode_run_eq_ok_iff]
    exact exists_lookupRow_iff (written_of_mem_runRows color) (List.pairwise_append.mp (clash_runRows color)).1 win i

/-- The code words in the order of their constructors: the tables one after the other, then the EOL forms. -/
def codeWords : List Instr :=
  (whiteTermRows ++ blackTermRows ++ whiteMakeupRows ++ blackMakeupRows ++ extMakeupRows ++ modeRows).map CodeRow.instr ++
    [.eol, .eol1, .eol0]

theorem getElem?_codeWords {i : Instr} (h : isCodeWord i = true) : codeWords[i.ctorIdx]? = some i := by
  cases i <;> first | rfl | exact Bool.noConfusion h

/-- Every code word stands in a context (R91). -/
theorem exists_context_of_isCodeWord {i : Instr} (h : isCodeWord i = true) : ∃ c, i ∈ wordsOf c := by
  have hi := List.mem_of_getElem? (getElem?_codeWords h)
  simp only [codeWords, List.mem_append, List.map_append, List.mem_cons, List.not_mem_nil, or_false] at hi
  rcases hi with (((((hi | hi) | hi) | hi) | hi) | hi) | rfl | rfl | rfl
  · exact ⟨.run .white, by simp [wordsOf, runRows, hi]⟩
  · exact ⟨.run .black, by simp [wordsOf, runRows, hi]⟩
  · exact ⟨.run .white, by simp [wordsOf, runRows, hi]⟩
  · exact ⟨.run .black, by simp [wordsOf, runRows, hi]⟩
  · exact ⟨.run .white, by simp [wordsOf, runRows, hi]⟩
  · exact ⟨.mode2d, hi⟩
  · exact ⟨.eol false, by simp [wordsOf]⟩
  · exact ⟨.eol true, by simp [wordsOf]⟩
  · exact ⟨.eol true, by simp [wordsOf]⟩

/-- Settles O1: the rows are written as the encoder writes them, and of two rows of a context no window holds both. -/
theorem codeWordsDecodeFromTheirBits : Obligations.CodeWordsDecodeFromTheirBits :=
  ⟨decodeCode_eq_ok_iff, fun _ => exists_context_of_isCodeWord⟩


/-! ## The space that no code word matches (R101) -/

/-- Of code words, as lengths and window values, those that begin with a bit, without that bit. -/
def afterBit (bit : Nat) (codes : List (Nat × Nat)) : List (Nat × Nat) :=
  (codes.filter fun c => c.1 != 0 && c.2 % 2 == bit).map fun c => (c.1 - 1, c.2 / 2)

/-- Does every string of `depth` bits begin with one of the code words? The search goes through the tree of bits. -/
def isComplete : Nat → List (Nat × Nat) → Bool
  | 0, codes => codes.contains (0, 0)
  | depth + 1, codes =>
    codes.contains (0, 0) || (isComplete depth (afterBit 0 codes) && isComplete depth (afterBit 1 codes))

theorem mem_afterBit {bit len win : Nat} {codes : List (Nat × Nat)} (h : (len, win) ∈ afterBit bit codes) :
    (len + 1, bit + 2 * win) ∈ codes := by
  obtain ⟨⟨l, v⟩, hmem, heq⟩ := List.mem_map.mp h
  simp only [List.mem_filter, Bool.and_eq_true, bne_iff_ne, beq_iff_eq, Prod.mk.injEq] at hmem heq
  obtain ⟨hcode, hl, hbit⟩ := hmem
  obtain ⟨rfl, rfl⟩ := heq
  rwa [← hbit, Nat.sub_add_cancel (Nat.pos_of_ne_zero hl), Nat.mod_add_div]

/-- A complete set of code words has one for each string of bits. -/
theorem exists_code_of_isComplete {depth : Nat} {codes : List (Nat × Nat)} (h : isComplete depth codes = true) (n : Nat) :
    ∃ c ∈ codes, n % 2 ^ c.1 = c.2 := by
  induction depth generalizing codes n with
  | zero => exact ⟨(0, 0), List.contains_iff_mem.mp h, Nat.mod_one n⟩
  | succ depth ih =>
    rw [isComplete, Bool.or_eq_true, Bool.and_eq_true] at h
    rcases h with h | ⟨h0, h1⟩
    · exact ⟨(0, 0), List.contains_iff_mem.mp h, Nat.mod_one n⟩
    have hbit : isComplete depth (afterBit (n % 2) codes) = true := by
      rcases Nat.mod_two_eq_zero_or_one n with he | he <;> rwa [he]
    obtain ⟨⟨len, win⟩, hmem, hwin⟩ := ih hbit (n / 2)
    refine ⟨_, mem_afterBit hmem, ?_⟩
    dsimp only at hwin ⊢
    rw [← hwin, Nat.pow_succ', Nat.mod_mul]

/-- The code words of a colour and eight zeros leave nothing out. -/
theorem isComplete_runRows (c : Color) : isComplete 13 ((8, 0) :: (runRows c).map fun r => (r.len, r.win)) = true := by
  cases c <;> decide

theorem lookupRow_runRows_eq_none_iff (c : Color) (win : BitVec 13) :
    lookupRow (runRows c) win = none ↔ win.toNat % 2 ^ 8 = 0 := by
  refine ⟨fun hnone => ?_, lookupRow_zeros⟩
  obtain ⟨code, hcode, hwin⟩ := exists_code_of_isComplete (isComplete_runRows c) win.toNat
  rcases List.mem_cons.mp hcode with rfl | hcode
  · exact hwin
  · obtain ⟨r, hmem, rfl⟩ := List.mem_map.mp hcode
    exact absurd (beq_iff_eq.mpr hwin) (List.find?_eq_none.mp hnone r hmem)

/-! ## Code words that begin another (R101) -/

theorem clash_comm (a b : CodeRow) : a.clash b = b.clash a := by
  rw [CodeRow.clash, CodeRow.clash, Nat.min_comm, bne_comm]

/-- Of two rows that differ, neither code word begins the other. -/
theorem not_isPrefix_of_clash {a b : CodeRow} (ha : a.Written) (hb : b.Written) (h : a.clash b = true) :
    ¬ codeBits a.instr <+: codeBits b.instr := by
  intro hbegins
  have hlen := hbegins.length_le
  have hvalue := windowValue_of_isPrefix hbegins
  rw [ha.1, hb.1] at hlen
  rw [ha.1, ha.2, hb.2] at hvalue
  rw [CodeRow.clash, Nat.min_eq_left hlen, hvalue, bne_iff_ne, ← hvalue] at h
  exact h (Nat.mod_mod _ _)

theorem pairwise_not_isPrefix (c : Color) :
    ((runRows c).map (fun r => codeBits r.instr) ++ [codeBits .eol]).Pairwise fun a b => ¬ a <+: b ∧ ¬ b <+: a := by
  have hwritten : ∀ r ∈ runRows c ++ [eolRow], r.Written :=
    List.forall_mem_append.mpr ⟨written_of_mem_runRows c, List.forall_mem_singleton.mpr written_eolRow⟩
  have hrows : ((runRows c ++ [eolRow]).map fun r => codeBits r.instr).Pairwise fun a b => ¬ a <+: b ∧ ¬ b <+: a := by
    refine List.pairwise_map.mpr ((clash_runRows c).imp_of_mem fun {a b} ha hb h => ⟨?_, ?_⟩)
    · exact not_isPrefix_of_clash (hwritten a ha) (hwritten b hb) h
    · exact not_isPrefix_of_clash (hwritten b hb) (hwritten a ha) (clash_comm a b ▸ h)
  rwa [List.map_append] at hrows

/-- Settles O5: rows that differ in pairs do not begin each other; a colour's code words and eight zeros leave no bit string
out; EOL and `Null` are zeros by their own bits. -/
theorem unmatchedSpaceIsEightZeros : Obligations.UnmatchedSpaceIsEightZeros := by
  refine ⟨pairwise_not_isPrefix, lookupRow_runRows_eq_none_iff, fun win h => ?_, fun win => ?_⟩
  · have h12 : win.toNat % 2 ^ 12 = 0x800 := by simpa [isEol] using h
    omega
  · rw [decodeCode_eq_ok_iff]
    exact and_iff_right (by decide)

end Sys2Proof
end

section
/-! PROOFS. Host commands (R107, R108, R110, R111): decode and encode agree, reserved opcodes are refused, and the MODE field
is read in both channels. -/

namespace Sys2Proof.Machine

/-! ## Decode and encode -/

/-- A field that fills an operand word from bit 0 on is read back (R107). -/
theorem extractLsb'_operand {n : Nat} (h : n ≤ 32) (v : BitVec n) : (v.setWidth 32).extractLsb' 0 n = v := by
  rw [BitVec.extractLsb'_setWidth_of_le ((Nat.zero_add n).trans_le h), BitVec.extractLsb'_eq_self]

/-- Every host command encodes to a command that decodes to it (R107, R108). -/
theorem decodeCommand_encode {i : Instr} (h : isCodeWord i = false) :
    ∃ c, encode i = .command c ∧ decodeCommand c = .ok i := by
  cases i with
  | txSetMode mode => exact ⟨_, rfl, congrArg (fun v => Except.ok (Instr.txSetMode v)) (extractLsb'_operand (by decide) mode)⟩
  | rxSetMode mode => exact ⟨_, rfl, congrArg (fun v => Except.ok (Instr.rxSetMode v)) (extractLsb'_operand (by decide) mode)⟩
  | rxPutByte byte => exact ⟨_, rfl, congrArg (fun v => Except.ok (Instr.rxPutByte v)) (extractLsb'_operand (by decide) byte)⟩
  | rxPutBit bit => cases bit <;> exact ⟨_, rfl, rfl⟩
  | _ => first | exact ⟨_, rfl, rfl⟩ | exact Bool.noConfusion h

/-- A field does not depend on the operand bits outside a mask that covers it (R107). -/
theorem extractLsb'_and_of_mask {n : Nat} {mask : Word} (hmask : mask.extractLsb' 0 n = BitVec.allOnes n) (arg : Word) :
    arg.extractLsb' 0 n = (arg &&& mask).extractLsb' 0 n := by
  rw [BitVec.extractLsb'_and, hmask, BitVec.and_allOnes]

/-- Settles O2: by cases on the command; a command reads nothing but the operand bits that it names. -/
theorem commandsDecodeFromTheirEncoding : Obligations.CommandsDecodeFromTheirEncoding := by
  refine ⟨fun i => decodeCommand_encode, fun arg buf => ⟨?_, ?_, ?_, ?_, ?_⟩⟩
  · refine List.forall_iff_forall_mem.mp ?_
    and_intros <;> rfl
  · refine List.forall_iff_forall_mem.mp ?_
    and_intros <;> rfl
  · have hmode := extractLsb'_and_of_mask (n := 2) (mask := 3) rfl arg
    refine List.forall_iff_forall_mem.mp ⟨?_, ?_⟩
    · exact congrArg (fun v => Except.ok (Instr.txSetMode v)) hmode
    · exact congrArg (fun v => Except.ok (Instr.rxSetMode v)) hmode
  · have hbit : arg[0] = (arg &&& 1)[0] := by rw [BitVec.getElem_and]; simp
    exact congrArg (fun v => Except.ok (Instr.rxPutBit v)) hbit
  · exact congrArg (fun v => Except.ok (Instr.rxPutByte v)) (extractLsb'_and_of_mask (n := 8) (mask := 0xFF) rfl arg)

/-! ## Reserved opcodes -/

/-- The opcodes that R108 does not list (R110). -/
theorem decodeCommand_reserved_iff (c : Command) :
    decodeCommand c = .error (.reservedOpcode c.op) ↔
      c.op ∈ [(0x00 : Byte), 0x10, 0x17, 0x1A, 0x1B] ∨ 0x20 ≤ c.op.toNat := by
  have hmem : c.op ∈ [(0x00 : Byte), 0x10, 0x17, 0x1A, 0x1B] ↔
      c.op.toNat = 0x00 ∨ c.op.toNat = 0x10 ∨ c.op.toNat = 0x17 ∨ c.op.toNat = 0x1A ∨ c.op.toNat = 0x1B := by
    simp only [List.mem_cons, List.not_mem_nil, or_false, ← BitVec.toNat_inj]
    rfl
  rw [hmem]
  unfold decodeCommand
  split
  case h_28 =>
    refine iff_of_true rfl ?_
    simp only [imp_false] at *
    omega
  all_goals exact iff_of_false nofun (by omega)

/-- A step on a reserved opcode (R110, R330). -/
theorem step_reserved {s : State} {c : Command} {rest : List Command} {e : DecodeError} (h : decisionDue s = false)
    (hq : s.host.queue = c :: rest) (hc : decodeCommand c = .error e) : step s = .refused (.reservedOpcode c.op) := by
  unfold step nextWork
  simp [h, hq, commandWork, hc]

/-- Settles O3: the opcodes without an arm of the decoder, and the work that such a command is. -/
theorem reservedOpcodesAreRefused : Obligations.ReservedOpcodesAreRefused := fun c =>
  ⟨decodeCommand_reserved_iff c, fun _ _ hdue hq hop => step_reserved hdue hq ((decodeCommand_reserved_iff c).mpr hop)⟩

/-! ## The MODE field (R111) -/

theorem execTxSetMode_of_mode {s : State} (hl : s.enc.life ≠ .uninit) {code : BitVec 2} {m : Mode}
    (hm : modeOfCode code = some m) :
    exec (.txSetMode code) s =
      .next ((s.withEnc { s.enc with cfg := { s.enc.cfg with mode := some m } }).withResult (.status 1)) := by
  change execTxSetMode code s = _
  rw [execTxSetMode, setterAdmitted_of_ne hl, admitIf_true, hm]
  rfl

theorem execTxSetMode_refused {s : State} (hl : s.enc.life ≠ .uninit) {code : BitVec 2} (hm : modeOfCode code = none) :
    exec (.txSetMode code) s = .refused .reservedMode := by
  change execTxSetMode code s = _
  rw [execTxSetMode, setterAdmitted_of_ne hl, admitIf_true, hm]

theorem execRxSetMode_of_mode {s : State} (hl : s.dec.life ≠ .uninit) {code : BitVec 2} {m : Mode}
    (hm : modeOfCode code = some m) :
    exec (.rxSetMode code) s =
      .next ((s.withDec { s.dec with cfg := { s.dec.cfg with mode := some m } }).withResult (.status 1)) := by
  change execRxSetMode code s = _
  rw [execRxSetMode, setterAdmitted_of_ne hl, admitIf_true, hm]
  rfl

theorem execRxSetMode_refused {s : State} (hl : s.dec.life ≠ .uninit) {code : BitVec 2} (hm : modeOfCode code = none) :
    exec (.rxSetMode code) s = .refused .reservedMode := by
  change execRxSetMode code s = _
  rw [execRxSetMode, setterAdmitted_of_ne hl, admitIf_true, hm]

/-- The three modes of the field. -/
theorem modeOfCode_of_mem : ∀ x ∈ [((0 : BitVec 2), Mode.t41d), (1, .t42d), (2, .t6)], modeOfCode x.1 = some x.2 := by decide

/-- Settles O4: a setter outside `UNINIT` does what its MODE field names. -/
theorem modeFieldNamesTheMode : Obligations.ModeFieldNamesTheMode := fun _ =>
  ⟨fun hl => ⟨fun x hx => execTxSetMode_of_mode hl (modeOfCode_of_mem x hx), execTxSetMode_refused hl rfl⟩,
   fun hl => ⟨fun x hx => execRxSetMode_of_mode hl (modeOfCode_of_mem x hx), execRxSetMode_refused hl rfl⟩⟩

/-! ## Written words -/

/-- Settles O6: each word spells the bits of an instruction of its context; the others are evaluated. -/
theorem writtenWordsDecode : Obligations.WrittenWordsDecode := by
  unfold Obligations.WrittenWordsDecode
  simp only [decodeCode_eq_ok_iff]
  and_intros <;> decide

end Sys2Proof.Machine
end

section
/-! PROOFS. The encoder tries Pass, Vertical, Horizontal (R163 to R167). -/

namespace Sys2Proof.Machine

/-- The Vertical code words, by their offsets (R105, R165). -/
theorem verticalOf_eq : ∀ x ∈ [((0 : Int), Instr.v0), (1, .vr1), (2, .vr2), (3, .vr3), (-1, .vl1), (-2, .vl2), (-3, .vl3)],
    verticalOf x.1 = x.2 ∧ x.1.natAbs ≤ 3 := by decide

/-- Settles O56: one step of the loop in each of its three cases. -/
theorem modesAreTriedInOrder : Obligations.ModesAreTriedInOrder := by
  rintro fuel cur ref a0 color a1 a2 b1 b2 hlt rfl rfl rfl rfl
  refine ⟨codes2dLoop_pass hlt, fun hb2 => ⟨fun x hx hoff => ?_, fun hfar => ?_⟩⟩
  · obtain ⟨hinstr, hnear⟩ := verticalOf_eq x hx
    rw [codes2dLoop_vertical hlt (Nat.not_lt.mpr hb2) hoff.symm hnear, hinstr]
  · have hstart : (max a0 0).toNat = a0.toNat := by omega
    rw [codes2dLoop_horizontal hlt (Nat.not_lt.mpr hb2) (Nat.not_le.mpr hfar) rfl rfl, hstart]

end Sys2Proof.Machine
end

section
/-! PROOFS. What a code word does to the row, exactly, where no `T6` row ends (R205, R213 to R216, R228 to R235), and an EOL that
commits nothing (R207 to R211). -/

namespace Sys2Proof.Machine

/-! ## Runs -/

/-- The decoder after a run of `v`: appended, or discarded with the overflow flag where the RunArray is full (R215, R216). -/
def Dec.takeRun (cap v : Nat) (d : Dec) : Dec :=
  { d with
    curRuns := if cap - 2 ≤ d.curRuns.length then d.curRuns else d.curRuns ++ [v]
    overflow := d.overflow || decide (cap - 2 ≤ d.curRuns.length) }

/-- A run within the bounds is taken (R12, R215, R216). -/
theorem appendRun_eq_takeRun {cap v : Nat} {d : Dec} (hv : v < Config.runLimit)
    (hsum : cap - 2 ≤ d.curRuns.length ∨ d.curRuns.sum + v < Config.runLimit) :
    d.appendRun cap v = .next (d.takeRun cap v) := by
  by_cases hfull : cap - 2 ≤ d.curRuns.length
  · rw [appendRun_overflow hfull hv]
    simp [Dec.takeRun, hfull]
  · rw [appendRun_eq (Nat.not_le.mp hfull) (hsum.resolve_left hfull)]
    simp [Dec.takeRun, hfull]

/-! ## Run codes -/

/-- A terminating row is written with its own length. -/
theorem length_codeBits_termRow {n : Nat} {r : CodeRow} (h : whiteTermRows[n]? = some r ∨ blackTermRows[n]? = some r) :
    (codeBits r.instr).length = r.len := by
  rcases h with h | h
  · exact (written_of_mem_runRows .white r (by simp [runRows, List.mem_of_getElem? h])).1
  · exact (written_of_mem_runRows .black r (by simp [runRows, List.mem_of_getElem? h])).1

/-- A make-up row is written with its own length. -/
theorem length_codeBits_makeupRow {k : Nat} {r : CodeRow}
    (h : whiteMakeupRows[k]? = some r ∨ blackMakeupRows[k]? = some r ∨ extMakeupRows[k]? = some r) :
    (codeBits r.instr).length = r.len := by
  rcases h with h | h | h
  · exact (written_of_mem_runRows .white r (by simp [runRows, List.mem_of_getElem? h])).1
  · exact (written_of_mem_runRows .black r (by simp [runRows, List.mem_of_getElem? h])).1
  · exact (written_of_mem_runRows .white r (by simp [runRows, List.mem_of_getElem? h])).1

/-- A decision in a page, from what it does to the decoder. -/
theorem onRow_of_inRxPage {s : State} {m : Mode} {w : Word} {f : RxPage → Dec → Res Dec} {d : Dec} (h : InRxPage s m w)
    (hf : f (rxPageOf s m w) s.dec = .next d) : onRow s f = .next (s.withDec d) := by
  rw [onRow_eq (rxPage_of_inRxPage h), hf, andThen_next]

/-- Settles O30: below the bound `addRun` extends the open run. -/
theorem makeupCodesExtendTheRun : Obligations.MakeupCodesExtendTheRun := by
  intro k v r s m w hr hpage hlim
  rw [exec_makeupRow hr, length_codeBits_makeupRow (hr.elim (fun h => h.1.imp_right .inl) fun h => .inr (.inr h.1))]
  exact onRow_of_inRxPage hpage (addRun_eq hlim)

/-- `hpair_advance`, where no `T6` row ends (R235). -/
theorem hpairAdvance_eq {pg : RxPage} {d : Dec}
    (h : pg.mode ≠ .t6 ∨ d.hpair ≠ .second ∨ (d.curRuns.sum < pg.w ∧ d.codes < maxRowCodes pg.w)) :
    d.hpairAdvance pg = .next { d with
      hpair := if d.hpair = .first then .second else if d.hpair = .second then .none else d.hpair
      a0 := if d.hpair = .second then (d.curRuns.sum : Int) else d.a0 } := by
  unfold Dec.hpairAdvance
  cases hpair : d.hpair with
  | none =>
    simp only [reduceCtorEq, if_false]
    rw [← hpair]
  | first => simp
  | second =>
    rw [t6RowEndCheck_eq]
    · simp
    · exact h.imp_right fun h => (h.resolve_left (not_not_intro hpair)).imp_left Int.ofNat_lt.mpr

/-- A terminating code within the bounds, where no `T6` row ends (R230, R231, R235). -/
theorem terminate_eq {pg : RxPage} {n : Nat} {d : Dec} (hv : d.runAcc + n < Config.runLimit)
    (hsum : pg.runsCap - 2 ≤ d.curRuns.length ∨ d.rowLen + n < Config.runLimit)
    (hrow : pg.mode ≠ .t6 ∨ d.rowIs2d = false ∨ d.hpair ≠ .second ∨
      ((d.takeRun pg.runsCap (d.runAcc + n)).curRuns.sum < pg.w ∧ d.codes + 1 < maxRowCodes pg.w)) :
    d.terminate n pg = .next { d.takeRun pg.runsCap (d.runAcc + n) with
      runAcc := 0
      color := d.color.flip
      codes := if d.rowIs2d then d.codes + 1 else d.codes
      hpair := if d.rowIs2d ∧ d.hpair = .first then .second
        else if d.rowIs2d ∧ d.hpair = .second then .none else d.hpair
      a0 := if d.rowIs2d ∧ d.hpair = .second then ((d.takeRun pg.runsCap (d.runAcc + n)).curRuns.sum : Int) else d.a0 } := by
  rw [Dec.terminate, appendRun_eq_takeRun hv (by simpa [Dec.rowLen, Nat.add_assoc] using hsum), andThen_next]
  cases h2d : d.rowIs2d with
  | false => simp [Dec.takeRun, h2d]
  | true =>
    have hpairRow := hrow.imp_right fun h => h.resolve_left (h2d ▸ Bool.noConfusion)
    dsimp only
    rw [if_pos (show (d.takeRun pg.runsCap (d.runAcc + n)).rowIs2d = true from h2d), hpairAdvance_eq hpairRow]
    simp [Dec.takeRun, h2d]

/-- Settles O29: the run is taken, and the pair advances in a 2D row. -/
theorem terminatingCodesCloseTheRun : Obligations.TerminatingCodesCloseTheRun := by
  intro rows n r s m w runs hrows hr hpage hv hsum hruns hrow
  have hr : whiteTermRows[n]? = some r ∨ blackTermRows[n]? = some r := by
    rcases hrows with rfl | rfl
    · exact .inl hr
    · exact .inr hr
  subst hruns
  rw [exec_termRow hr, length_codeBits_termRow hr]
  exact onRow_of_inRxPage hpage (terminate_eq (d := s.dec.matched r.len) hv hsum hrow)

/-! ## Vertical codes -/

/-- A valid Vertical within the bounds, where no `T6` row ends (R214). -/
theorem vertical_eq {pg : RxPage} {off a1 : Int} {d : Dec} (ha1 : a1 = d.b1 pg + off) (hvalid : d.start ≤ a1)
    (hv : d.runAcc + (a1 - d.start).toNat < Config.runLimit)
    (hsum : pg.runsCap - 2 ≤ d.curRuns.length ∨ d.rowLen + (a1 - d.start).toNat < Config.runLimit)
    (hrow : pg.mode ≠ .t6 ∨ (a1 < pg.w ∧ d.codes < maxRowCodes pg.w)) :
    d.vertical off pg = .next { d.takeRun pg.runsCap (d.runAcc + (a1 - d.start).toNat) with
      runAcc := 0, a0 := a1, color := d.color.flip } := by
  subst ha1
  rw [vertical_valid hvalid, appendRun_eq_takeRun hv (by simpa [Dec.rowLen, Nat.add_assoc] using hsum), andThen_next,
    t6RowEndCheck_eq hrow]

/-- Settles O32: the run up to `a1` is taken. -/
theorem verticalCodesCloseTheRun : Obligations.VerticalCodesCloseTheRun := by
  intro x s m w a1 hx hpage ha1 hvalid hv hsum hrow
  rw [exec_verticalRow x hx]
  exact onRow_of_inRxPage hpage (vertical_eq (d := s.dec.matchedMode _) ha1 hvalid hv hsum hrow)

/-! ## End of line -/

/-- Each form of an EOL means `eol` with its tag, and consumes its bits (R92, R207, R209). -/
theorem exec_eolForm {s : State} {w : Word} {i : Instr} {m : Mode} {tag : Option Bool} {bits : Nat}
    (hx : (i, m, tag, bits) ∈ eolForms s) (hpage : InRxPage s m w) :
    exec i s = onRow s (fun pg d => d.eol tag pg) ∧ bits = eolBits tag := by
  have heol : exec .eol s =
      onRow s fun pg d => d.eol (if m = .t42d then some (s.dec.view.getLsbD 12) else none) pg := by
    change execEol s = _
    rw [execEol, onRow_eq (rxPage_of_inRxPage hpage), onRow_eq (rxPage_of_inRxPage hpage)]
    rfl
  simp only [eolForms, List.mem_cons, List.not_mem_nil, or_false, Prod.mk.injEq] at hx
  rcases hx with ⟨rfl, rfl, rfl, rfl⟩ | ⟨rfl, rfl, rfl, rfl⟩ | ⟨rfl, rfl, rfl, rfl⟩ | ⟨rfl, rfl, rfl, rfl⟩ |
    ⟨rfl, rfl, rfl, rfl⟩
  · exact ⟨heol, rfl⟩
  · exact ⟨heol, rfl⟩
  · exact ⟨heol, rfl⟩
  · exact ⟨rfl, rfl⟩
  · exact ⟨rfl, rfl⟩

/-- An EOL with no row before it resets the row and counts (R207, R208, R211). -/
theorem eolRow_of_empty {pg : RxPage} {d : Dec} (h : d.eolCount = -1 ∨ d.rowLen = 0) :
    d.eolRow pg = .next (Dec.rowReset { d with eolCount := if d.eolCount = -1 then 0 else d.eolCount + 1 }) := by
  unfold Dec.eolRow
  split
  · rfl
  · rename_i hcount
    rw [if_neg (Nat.not_lt.mpr (h.resolve_left hcount).le)]

/-- An EOL with no row before it (R207 to R211). -/
theorem eol_of_empty {tag : Option Bool} {pg : RxPage} {d : Dec} (h : d.eolCount = -1 ∨ d.rowLen = 0) :
    d.eol tag pg = .next (Dec.eolFinish tag pg <| Dec.rowReset
      { d.drop (eolBits tag) with skip := 0, eolCount := if d.eolCount = -1 then 0 else d.eolCount + 1 }) := by
  rw [Dec.eol, eolRow_of_empty (d := { d.drop (eolBits tag) with skip := 0 }) h, andThen_next]
  rfl

theorem eolThreshold_eq_ite (m : Mode) : eolThreshold m = if m = .t6 then 2 else 6 := by cases m <;> rfl

/-- Settles O38: the row registers are reset, and the rest of the EOL follows. -/
theorem eolWithoutARow : Obligations.EolWithoutARow := by
  rintro s w ⟨i, m, tag, bits⟩ count hx hpage hempty rfl
  dsimp only at hpage ⊢
  obtain ⟨hexec, rfl⟩ := exec_eolForm hx hpage
  rw [hexec, ← eolThreshold_eq_ite]
  refine onRow_of_inRxPage hpage ((eol_of_empty hempty).trans ?_)
  cases tag <;> rfl

end Sys2Proof.Machine
end

section
/-! PROOFS. The elements of the two-dimensional code (R125 to R128) are the nearest changing elements of their kind. -/

namespace Sys2Proof.Machine

/-- A position is a changing element of some colour where its pixel differs from the one before, white before column 0. -/
theorem exists_mem_changes_iff {px : List Color} {k : Nat} :
    (∃ c, (k, c) ∈ changes px) ↔ k < px.length ∧ px[k]? ≠ (if k = 0 then some .white else px[k - 1]?) := by
  have hbefore : (Color.white :: px)[k]? = if k = 0 then some .white else px[k - 1]? := List.getElem?_cons
  simp only [mem_changes, ← hbefore]
  constructor
  · rintro ⟨c, hc, hne⟩
    exact ⟨(List.getElem?_eq_some_iff.mp hc).1, hc ▸ hne.symm⟩
  · rintro ⟨hk, hne⟩
    exact ⟨px[k], List.getElem?_eq_getElem hk, List.getElem?_eq_getElem hk ▸ hne.symm⟩

/-- `b1` is the end of the row, or the first changing element of the other colour right of `a0` (R128). -/
theorem b1Of_cases (ref : List Color) (a0 : Int) (color : Color) :
    (b1Of ref a0 color = ref.length ∧ ∀ x ∈ changes ref, a0 < x.1 → x.2 = color) ∨
    ∃ c, (b1Of ref a0 color, c) ∈ changes ref ∧ c ≠ color ∧
      ∀ x ∈ changes ref, a0 < x.1 → x.2 ≠ color → b1Of ref a0 color ≤ x.1 := by
  unfold b1Of
  cases hf : (changes ref).find? fun x => decide (a0 < x.1) && x.2 != color with
  | none => exact .inl ⟨rfl, fun x hx => by simpa using List.find?_eq_none.mp hf x hx⟩
  | some x =>
    have hx : a0 < x.1 ∧ x.2 ≠ color := by simpa using List.find?_some hf
    exact .inr ⟨x.2, List.mem_of_find?_eq_some hf, hx.2, fun y hy hlt hne =>
      find?_key_le (pairwise_changesFrom ..) hf hy (by simp [hlt, hne])⟩

theorem b1Of_le_length (ref : List Color) (a0 : Int) (color : Color) : b1Of ref a0 color ≤ ref.length := by
  rcases b1Of_cases ref a0 color with ⟨h, -⟩ | ⟨c, hc, -⟩
  · exact h.le
  · exact (lt_length_of_mem_changes hc).le

/-- A `b1` inside the row is a changing element of the other colour (R128). -/
theorem b1Of_mem_changes {ref : List Color} {a0 : Int} {color : Color} (h : b1Of ref a0 color < ref.length) :
    ∃ c, (b1Of ref a0 color, c) ∈ changes ref ∧ c ≠ color := by
  rcases b1Of_cases ref a0 color with ⟨he, -⟩ | ⟨c, hc, hne, -⟩
  · exact absurd he h.ne
  · exact ⟨c, hc, hne⟩

/-- No changing element of the other colour lies between `a0` and `b1` (R128). -/
theorem b1Of_le {ref : List Color} {a0 : Int} {color c : Color} {k : Nat} (hk : (k, c) ∈ changes ref) (hlt : a0 < k)
    (hne : c ≠ color) : b1Of ref a0 color ≤ k := by
  rcases b1Of_cases ref a0 color with ⟨-, hnone⟩ | ⟨-, -, -, hleast⟩
  · exact absurd (hnone _ hk hlt) hne
  · exact hleast _ hk hlt hne

/-- A next change inside the row is a changing element, right of the position (R126). -/
theorem nextChange_mem_changes {px : List Color} {p : Int} (h : nextChange px p < px.length) :
    (∃ c, (nextChange px p, c) ∈ changes px) ∧ p < nextChange px p := by
  rcases nextChange_cases px p with ⟨he, -⟩ | ⟨c, hc, hlt, -⟩
  · exact absurd he h.ne
  · exact ⟨⟨c, hc⟩, hlt⟩

/-- No changing element lies between a position and the next change (R126). -/
theorem nextChange_le {px : List Color} {p : Int} {c : Color} {k : Nat} (hk : (k, c) ∈ changes px) (hlt : p < k) :
    nextChange px p ≤ k := by
  rcases nextChange_cases px p with ⟨-, hnone⟩ | ⟨-, -, -, hleast⟩
  · exact absurd hlt (hnone _ hk)
  · exact hleast _ hk hlt

/-- Settles O58: the changing elements come in rising order, so the first one of a kind is the nearest. -/
theorem changingElementsAreNearest : Obligations.ChangingElementsAreNearest := by
  intro px p color change hchange
  have change_iff (i : Nat) : change i ↔ ∃ c, (i, c) ∈ changes px := (hchange i).trans exists_mem_changes_iff.symm
  refine ⟨⟨fun h => ?_, nextChange_le_length px p, fun i hi hlt => ?_⟩,
    ⟨fun h => ?_, b1Of_le_length px p color, fun i hi hlt hne => ?_⟩, fun h => if_pos h, fun h => if_neg h.not_lt⟩
  · exact (nextChange_mem_changes h).imp_left (change_iff _).mpr
  · obtain ⟨c, hc⟩ := (change_iff i).mp hi
    exact nextChange_le hc hlt
  · obtain ⟨c, hc, hne⟩ := b1Of_mem_changes h
    have hcolor : px[b1Of px p color]? = some c := (mem_changes.mp hc).1
    exact ⟨(change_iff _).mpr ⟨c, hc⟩, lt_b1Of h, fun he => hne (Option.some.inj (hcolor.symm.trans he))⟩
  · obtain ⟨c, hc⟩ := (change_iff i).mp hi
    have hcolor : px[i]? = some c := (mem_changes.mp hc).1
    exact b1Of_le hc hlt fun he => hne (he ▸ hcolor)

end Sys2Proof.Machine
end

section
/-! PROOFS. Bits that leave the window below 13 wait in it, the oldest lowest (R144, R145, R148, R202, R308 to R310). -/

namespace Sys2Proof.Machine

/-- A bit put above the bits of a register is added with its weight (R144). -/
theorem putBit_eq_ofNat {w n : Nat} {v : BitVec w} (b : Bool) (hn : n < w) (h : v.toNat < 2 ^ n) :
    putBit v n b = BitVec.ofNat w (v.toNat + 2 ^ n * b.toNat) := by
  refine BitVec.eq_of_getLsbD_eq fun i hi => ?_
  rw [getLsbD_putBit v b hn, BitVec.getLsbD_ofNat, Nat.add_comm, Nat.testBit_two_pow_mul_add _ h, decide_eq_true hi,
    Bool.true_and]
  rcases Nat.lt_trichotomy i n with hlt | rfl | hgt
  · rw [if_neg hlt.ne, if_pos hlt, BitVec.getLsbD]
  · rw [if_pos rfl, if_neg (Nat.lt_irrefl i), Nat.sub_self]
    cases b <;> rfl
  · have hzero : v.getLsbD i = false := Nat.testBit_lt_two_pow (h.trans (Nat.pow_lt_pow_right Nat.one_lt_two hgt))
    rw [if_neg hgt.ne', if_neg hgt.not_gt, hzero, Nat.testBit_lt_two_pow]
    exact b.toNat_lt.trans_le (Nat.pow_le_pow_right Nat.two_pos (Nat.sub_pos_of_lt hgt))

/-- The decoder with bits above those that wait in its window, the oldest lowest, and counted (R144, R145). -/
def Dec.appendBits (bits : List Bool) (d : Dec) : Dec :=
  { d with
    win := BitVec.ofNat 13 (d.win.toNat + 2 ^ d.winCount * windowValue bits)
    winCount := d.winCount + bits.length
    pageBits := d.pageBits + bits.length }

theorem appendBits_nil (d : Dec) : d.appendBits [] = d := by simp [Dec.appendBits, windowValue]

/-- The window of `append` as a number (R145). -/
theorem toNat_win_append {d : Dec} (b : Bool) (hcount : d.winCount < 13) (hclean : d.win.toNat < 2 ^ d.winCount) :
    (d.append b).win.toNat = d.win.toNat + 2 ^ d.winCount * b.toNat := by
  have hpow : 2 ^ (d.winCount + 1) ≤ 2 ^ 13 := Nat.pow_le_pow_right Nat.two_pos hcount
  have hbit : 2 ^ d.winCount * b.toNat ≤ 2 ^ d.winCount * 1 := Nat.mul_le_mul_left _ b.toNat_le
  rw [Dec.append_win, putBit_eq_ofNat b hcount hclean, BitVec.toNat_ofNat, Nat.mod_eq_of_lt]
  omega

/-- One bit appended, and then the others. -/
theorem appendBits_cons {d : Dec} (b : Bool) (bits : List Bool) (hcount : d.winCount < 13)
    (hclean : d.win.toNat < 2 ^ d.winCount) : d.appendBits (b :: bits) = (d.append b).appendBits bits := by
  have hwin : d.win.toNat + 2 ^ d.winCount * windowValue (b :: bits) =
      (d.append b).win.toNat + 2 ^ (d.winCount + 1) * windowValue bits := by
    rw [toNat_win_append b hcount hclean, windowValue, Nat.pow_succ]
    ring
  have hlen (n : Nat) : n + (b :: bits).length = n + 1 + bits.length := by
    rw [List.length_cons]
    omega
  rw [Dec.appendBits, hwin, hlen, hlen]
  rfl

/-- Bits that leave the window below 13 only wait (R148, R202). -/
theorem decodeBits_wait {bits : List Bool} {s : State} (hc : s.dec.complete = false) (hn : s.dec.nomem = false)
    (hclean : s.dec.win.toNat < 2 ^ s.dec.winCount) (hw : s.dec.winCount + bits.length < 13)
    (hp : s.dec.pageBits + bits.length < 2 ^ 32) :
    decodeBits bits s = .next (s.withDec (s.dec.appendBits bits)) := by
  induction bits generalizing s with
  | nil =>
    rw [appendBits_nil]
    rfl
  | cons b bits ih =>
    rw [List.length_cons] at hw hp
    have hrest : decodeBits bits (s.withDec (s.dec.append b)) = _ :=
      ih hc hn (putBit_lt b hclean) (by simp; omega) (by simp; omega)
    rw [decodeBits, decodeBit_wait b hc hn (by omega) (by omega), andThen_next, hrest,
      appendBits_cons b bits (by omega) hclean]
    rfl

/-- Settles O27: the bits join the window one by one, and none of them brings a decision. -/
theorem putBelowThirteenBitsWaits : Obligations.PutBelowThirteenBitsWaits := by
  intro i s m w hi h hc hn hclean hw hp
  have hwait := decodeBits_wait (s := s.withDec { s.dec with invalid := false }) hc hn hclean hw hp
  have hstatus : putStatus (Dec.appendBits (putBitsOf i) { s.dec with invalid := false }) = 0 := by
    simp [Dec.appendBits, putStatus, hc, hn, statusMoreData]
  rw [exec_put_eq hi (rxPage_of_inRxPage h), putBits, rxPage_of_inRxPage h, andThen_next, hwait, andThen_next]
  dsimp only [State.withDec_dec]
  rw [hstatus]
  rfl

end Sys2Proof.Machine
end

section
/-! PROOFS. Production on demand reaches the bit or ends the page (R187, R315), and delivery only appends to what is stored
(R143, R313). -/

namespace Sys2Proof.Machine

/-! ## `ensure` reaches its bit -/

/-- Where `ensure` answers, the bit is there or the page has ended: every pull adds a bit or ends the page (R187, R315). -/
theorem ensure_reaches {pg : TxPage} (hw : 1 ≤ pg.w) {k : Nat} {e t : Enc} (h : e.ensure pg k = .next t) :
    k < t.emitted ∨ t.termDone = true := by
  induction hmissing : k + 1 - e.emitted using Nat.strong_induction_on generalizing e with
  | _ missing ih =>
    by_cases hstop : k < e.emitted ∨ e.termDone = true
    · rw [ensure_stop hstop] at h
      exact Host.Outcome.next.inj h ▸ hstop
    · obtain ⟨hk, hopen⟩ := not_or.mp hstop
      rw [ensure_pull hw (Nat.not_lt.mp hk) (Bool.eq_false_of_not_eq_true hopen)] at h
      obtain ⟨u, hu, h⟩ := andThen_eq_next h
      rcases encodeNextRow_progress hw hu with hend | hlt
      · rw [ensure_stop (.inr hend)] at h
        exact .inr (Host.Outcome.next.inj h ▸ hend)
      · exact ih _ (by omega) h rfl

/-! ## Facts that delivery keeps -/

section
variable {P : Enc → Prop} (hpull : ∀ pg e t, P e → e.termDone = false → e.encodeNextRow pg = .next t → P t)
  (hseek : ∀ n e, P e → e.outPos ≤ n → P (e.seek n))
include hpull hseek

/-- What pulls and a cursor that rises keep, a delivered byte keeps (R292). -/
theorem nextByte_keeps {pg : TxPage} {e : Enc} {r : Option Byte × Enc} (he : P e) (h : e.nextByte pg = .next r) :
    P r.2 := by
  obtain ⟨u, hu, h⟩ := andThen_eq_next h
  have hP : P u := ensure_keeps (hpull pg) _ he hu
  split at h
  · cases h
    exact hP
  · obtain ⟨bs, -, h⟩ := andThen_eq_next h
    cases h
    exact hseek _ u hP (Nat.le_add_right ..)

theorem nextBytes_keeps {pg : TxPage} {n : Nat} {e : Enc} {r : List Byte × Enc} (he : P e)
    (h : e.nextBytes pg n = .next r) : P r.2 := by
  induction n generalizing e r with
  | zero =>
    cases h
    exact he
  | succ n ih =>
    obtain ⟨⟨v, u⟩, hu, h⟩ := andThen_eq_next h
    have hP : P u := nextByte_keeps hpull hseek he hu
    cases v with
    | none =>
      cases h
      exact hP
    | some v =>
      obtain ⟨q, hq, h⟩ := andThen_eq_next h
      cases h
      exact (ih hP hq : P q.2)

theorem execTxGetBit_keeps {s t : State} (hs : P s.enc) (h : execTxGetBit s = .next t) : P t.enc := by
  obtain ⟨pg, -, h⟩ := andThen_eq_next h
  obtain ⟨e, he, h⟩ := andThen_eq_next h
  have hP : P e := ensure_keeps (hpull pg) _ hs he
  split at h
  · cases h
    exact hP
  · obtain ⟨b, -, h⟩ := andThen_eq_next h
    obtain ⟨u, hu, h⟩ := andThen_eq_next h
    cases h
    exact ensure_keeps (hpull pg) _ (hseek _ e hP (Nat.le_succ _)) hu

theorem execTxGetByte_keeps {s t : State} (hs : P s.enc) (h : execTxGetByte s = .next t) : P t.enc := by
  obtain ⟨pg, -, h⟩ := andThen_eq_next h
  obtain ⟨-, h⟩ := admitIf_eq_next h
  obtain ⟨⟨v, e⟩, he, h⟩ := andThen_eq_next h
  have hP : P e := nextByte_keeps hpull hseek hs he
  cases v with
  | none =>
    cases h
    exact hP
  | some v =>
    obtain ⟨u, hu, h⟩ := andThen_eq_next h
    cases h
    exact ensure_keeps (hpull pg) _ hP hu

theorem execTxGetChunk_keeps {maxLen : Word} {buf : List Byte} {s t : State} (hs : P s.enc)
    (h : execTxGetChunk maxLen buf s = .next t) : P t.enc := by
  obtain ⟨pg, -, h⟩ := andThen_eq_next h
  obtain ⟨-, h⟩ := admitIf_eq_next h
  obtain ⟨-, h⟩ := admitIf_eq_next h
  obtain ⟨-, h⟩ := admitIf_eq_next h
  obtain ⟨r, hr, h⟩ := andThen_eq_next h
  cases h
  exact nextBytes_keeps hpull hseek hs hr

/-- What pulls and a cursor that rises keep, every GET command keeps (R291 to R293). -/
theorem exec_get_keeps {i : Instr} {s t : State}
    (hi : i = .txGetBit ∨ i = .txGetByte ∨ ∃ maxLen buf, i = .txGetChunk maxLen buf)
    (hs : P s.enc) (h : exec i s = .next t) : P t.enc := by
  rcases hi with rfl | rfl | ⟨maxLen, buf, rfl⟩
  · exact execTxGetBit_keeps hpull hseek hs h
  · exact execTxGetByte_keeps hpull hseek hs h
  · exact execTxGetChunk_keeps hpull hseek hs h

end

/-! ## Delivery only appends -/

theorem emitAll_keepsStored (grow : Nat) (ss : List (List Bool)) (e : Enc) : KeepsStored e (e.emitAll grow ss) := by
  induction ss generalizing e with
  | nil => exact .refl e
  | cons s ss ih => exact (emit_keepsStored grow s e).trans (ih _)

theorem pad_keepsStored (grow : Nat) (e : Enc) : KeepsStored e (e.pad grow) := emit_keepsStored grow _ e

theorem fill_keepsStored (pg : TxPage) (e : Enc) : KeepsStored e (e.fill pg) := by
  unfold Enc.fill
  split
  · exact emitAll_keepsStored ..
  · exact .refl e

/-- One encoder comes from another by operations that only append to the page: the stored bytes stay, cursor and rows do not
fall, and the lifecycle and the host's value stay (R143, R313). -/
structure Grows (e t : Enc) : Prop extends KeepsStored e t where
  life : t.life = e.life
  userData : t.userData = e.userData
  outPos : e.outPos ≤ t.outPos
  rows : e.rows ≤ t.rows

theorem Grows.refl (e : Enc) : Grows e e := ⟨.refl e, rfl, rfl, le_rfl, le_rfl⟩

theorem Grows.trans {a b c : Enc} (h : Grows a b) (k : Grows b c) : Grows a c where
  toKeepsStored := h.toKeepsStored.trans k.toKeepsStored
  life := k.life.trans h.life
  userData := k.userData.trans h.userData
  outPos := h.outPos.trans k.outPos
  rows := h.rows.trans k.rows

theorem Enc.EmitFrame.userData {e t : Enc} (h : e.EmitFrame t) : t.userData = e.userData := by
  unfold Enc.EmitFrame at h
  exact (congrArg Enc.userData h :)

/-- An emission that keeps the stored bytes only appends (R141). -/
theorem Enc.EmitFrame.grows {e t : Enc} (h : e.EmitFrame t) (hstored : KeepsStored e t) : Grows e t := by
  obtain ⟨hsetup, -, -, -, -, -, -, hrows⟩ := h.regs
  exact ⟨hstored, congrArg EncSetup.life hsetup, h.userData, h.outPos.ge, hrows.ge⟩

/-- A raised cursor appends nothing (R33). -/
theorem grows_seek {n : Nat} {e : Enc} (h : e.outPos ≤ n) : Grows e (e.seek n) :=
  { Grows.refl e with outPos := h }

/-- The page's end (R181 to R183). -/
theorem terminatePage_grows (pg : TxPage) (e : Enc) : Grows e (e.terminatePage pg) := by
  have hcodes := emitAll_keepsStored pg.outGrow ((terminatorCodes pg.mode).map codeBits) e
  have hstored := hcodes.trans (pad_keepsStored pg.outGrow _)
  exact { (terminatePage_frame pg e).grows { hstored with } with }

/-- A row (R178). -/
theorem encodeRow_grows {pg : TxPage} {row : List Byte} {e t : Enc} (h : e.encodeRow pg row = .next t) : Grows e t := by
  obtain ⟨rfl, hframe⟩ := encodeRow_eq_emitRow h
  have hemit := hframe.grows ((emitAll_keepsStored ..).trans (fill_keepsStored ..))
  exact { hemit with rows := hemit.rows.trans (Nat.le_succ _) }

/-- A pull (R177). -/
theorem encodeNextRow_grows {pg : TxPage} {e t : Enc} (h : e.encodeNextRow pg = .next t) : Grows e t := by
  have hread : Grows e (e.afterRead (bytesPerRow pg.w)) := { Grows.refl e with }
  refine hread.trans ?_
  rcases takeAnswer_eq_next h with ⟨-, rfl⟩ | ⟨-, rfl⟩ | ⟨-, -, u, hu, rfl⟩
  · exact { terminatePage_grows pg _ with }
  · exact { terminatePage_grows pg _ with }
  · split
    · exact { encodeRow_grows hu with }
    · exact encodeRow_grows hu

/-- Settles O53: a pull adds a bit or ends the page, and only appends; so does every GET command, which raises the cursor
besides. -/
theorem ensureMakesTheBitAvailable : Obligations.EnsureMakesTheBitAvailable := by
  refine ⟨fun p pg k e t _ _ hw h => ensure_reaches hw h, fun i s t h hi => ?_⟩
  obtain ⟨⟨hbytes, hsame⟩, hlife, huser, hpos, hrows⟩ : Grows s.enc t.enc :=
    exec_get_keeps (P := Grows s.enc) (fun _ _ _ he _ ht => he.trans (encodeNextRow_grows ht))
      (fun _ _ he hn => he.trans (grows_seek hn)) hi (.refl _) h
  exact ⟨hlife, huser, hpos, hbytes, hrows, hsame⟩

end Sys2Proof.Machine
end

section
/-! PROOFS. The line encoder's own rules: K by the resolution (R176), the make-up decomposition (R161), and the pull that
ends the page (R181 to R185). -/

namespace Sys2Proof.Machine

/-! ## K (R176) -/

/-- A number that fits a word is the value of one word only (R107). -/
theorem toNat_eq_iff {y : Word} {n : Nat} (hn : n < 2 ^ 32) : y.toNat = n ↔ y = BitVec.ofNat 32 n := by
  rw [← BitVec.toNat_inj, BitVec.toNat_ofNat, Nat.mod_eq_of_lt hn]

/-- The decided table has no entry beside its seven resolutions (R176). -/
theorem lookup_kTable_eq_none {n : Nat} (h : n ∉ [100, 200, 300, 400, 600, 800, 1200]) :
    Config.params.kTable.lookup n = none := by
  refine List.lookup_eq_none_iff.mpr fun entry hentry => ?_
  have hkey : entry.1 ∈ Config.params.kTable.map Prod.fst := List.mem_map_of_mem hentry
  rw [bne_iff_ne]
  rintro rfl
  exact h hkey

/-- K by the decided table, and its default elsewhere (R176). -/
theorem kOf_params (y : Word) : kOf Config.params y =
    if y = 100 then 2 else if y = 200 then 4 else if y = 300 then 6 else if y = 400 then 8
    else if y = 600 then 12 else if y = 800 then 16 else if y = 1200 then 24 else 2 := by
  split_ifs with h100 h200 h300 h400 h600 h800 h1200
  case neg =>
    have hnone : Config.params.kTable.lookup y.toNat = none := lookup_kTable_eq_none <| by
      simp (disch := decide) only [List.mem_cons, List.not_mem_nil, or_false, not_or, toNat_eq_iff]
      exact ⟨h100, h200, h300, h400, h600, h800, h1200⟩
    rw [kOf, hnone]
    rfl
  all_goals
    subst y
    rfl

/-- TX_START_PAGE leaves a page in progress only where the allocator grants it (R287): it is admitted in `IDLE` only. -/
theorem execTxStartPage_inPage {s t : State} (h : execTxStartPage s = .next t) (hpage : t.enc.life = .inPage) :
    ∃ a, t.enc = Enc.startPage s.par { s.enc with alloc := a } := by
  obtain ⟨hidle, h⟩ := admitIf_eq_next h
  obtain ⟨-, h⟩ := admitIf_eq_next h
  have hlife : s.enc.life = .idle := by simpa using hidle
  split at h <;> cases h
  · exact ⟨_, rfl⟩
  · exact absurd (hlife.symm.trans hpage) (by decide)

/-- Settles O19: the table with its default is read off, and the page that TX_START_PAGE opens takes K from the staged
resolution. -/
theorem kFollowsTheResolution : Obligations.KFollowsTheResolution := by
  refine ⟨kOf_params, fun s t y hmode hyres h hpage => ?_⟩
  obtain ⟨a, henc⟩ := execTxStartPage_inPage h hpage
  simp [henc, Enc.startPage, kAfterStart, hmode, hyres]

/-! ## The make-up decomposition (R161) -/

/-- Once round the loop of `emit_run` (R160). -/
theorem runCodesLoop_makeup (fuel : Nat) (c : Color) {n : Nat} (h : 64 ≤ n) :
    runCodesLoop (fuel + 1) c n =
      makeupOf c (min 2560 (64 * (n / 64))) ++ runCodesLoop fuel c (n - min 2560 (64 * (n / 64))) := if_pos h

/-- The loop ends with the terminating code word (R160). -/
theorem runCodesLoop_term (fuel : Nat) (c : Color) {n : Nat} (h : n < 64) :
    runCodesLoop (fuel + 1) c n = termCode c n := if_neg (Nat.not_le.mpr h)

/-- The largest make-up code is the same in both colours (R97, R160). -/
theorem makeupOf_max (c : Color) : makeupOf c 2560 = [.xm2560] := rfl

/-- As long as 2560 pixels are left, the loop emits the largest make-up code (R161). -/
theorem runCodesLoop_max (fuel : Nat) (c : Color) (q r : Nat) :
    runCodesLoop (q + fuel) c (r + 2560 * q) = List.replicate q .xm2560 ++ runCodesLoop fuel c r := by
  induction q with
  | zero => simp
  | succ q ih =>
    have hm : min 2560 (64 * ((r + 2560 * (q + 1)) / 64)) = 2560 := by omega
    have hrest : r + 2560 * (q + 1) - 2560 = r + 2560 * q := by omega
    rw [Nat.add_right_comm, runCodesLoop_makeup _ _ (by omega), hm, makeupOf_max, hrest, ih, List.replicate_succ,
      List.singleton_append, List.cons_append]

/-- The tiers of a run: the largest make-up codes, one make-up code of what is left, the terminating code (R161). -/
theorem runCodes_eq (c : Color) (n : Nat) :
    runCodes c n = List.replicate (n / 2560) .xm2560 ++
      (if 64 ≤ n % 2560 then makeupOf c (64 * (n % 2560 / 64)) else []) ++ termCode c (n % 64) := by
  have hsplit := runCodesLoop_max 2 c (n / 2560) (n % 2560)
  rw [Nat.mod_add_div] at hsplit
  rw [runCodes, Config.makeupMax, hsplit, List.append_assoc]
  congr 1
  split
  · rename_i h64
    have hm : min 2560 (64 * (n % 2560 / 64)) = 64 * (n % 2560 / 64) := by omega
    have hrest : n % 2560 - 64 * (n % 2560 / 64) = n % 64 := by omega
    rw [runCodesLoop_makeup 1 c h64, hm, hrest, runCodesLoop_term 0 c (Nat.mod_lt _ (by decide))]
  · rename_i h64
    have hrest : n % 2560 = n % 64 := by omega
    rw [runCodesLoop_term 1 c (Nat.not_le.mp h64), hrest, List.nil_append]

/-- The make-up code of `64 * j`, by its place in the tables of R95 to R97 (R104). -/
theorem makeupOf_mul (c : Color) (j : Nat) :
    makeupOf c (64 * j) = if j ≤ 27 then instrAt (makeupRows c) (j - 1) else instrAt extMakeupRows (j - 28) := by
  have hlow : 64 * j ≤ 1728 ↔ j ≤ 27 := by omega
  have hext : (64 * j - 1792) / 64 = j - 28 := by omega
  simp only [makeupOf, hlow, hext, Nat.mul_div_cancel_left j (by decide : 0 < 64)]

/-- Settles O54: the tiers of a run, each code word read off its table. -/
theorem makeupTieringIsFixed : Obligations.MakeupTieringIsFixed := by
  intro color n
  have hword (rows : List CodeRow) (i : Nat) : (rows[i]?).toList.map CodeRow.instr = instrAt rows i :=
    Option.toList_map .. |>.symm
  rw [runCodes_eq, makeupOf_mul]
  simp only [apply_ite (List.map CodeRow.instr), hword]
  cases color <;> rfl

/-! ## The end of the page (R181 to R185) -/

/-- The bits of the terminator, RTC or EOFB (R181, R182). -/
def terminatorBits (mode : Mode) : List Bool := ((terminatorCodes mode).map codeBits).flatten

/-- The terminator written out (R92, R181, R182). -/
theorem terminatorBits_eq (mode : Mode) :
    terminatorBits mode = match mode with
      | .t41d => (List.replicate 6 (List.replicate 11 false ++ [true])).flatten
      | .t42d => (List.replicate 6 (List.replicate 11 false ++ [true, true])).flatten
      | .t6 => (List.replicate 2 (List.replicate 11 false ++ [true])).flatten := by cases mode <;> rfl

/-- The waiting bits are those of the bitstream's last, unfinished byte (R140). -/
theorem Enc.Packed.emitted_mod {e : Enc} (h : e.Packed) : e.emitted % 8 = e.accBits := by
  have hacc := h.accBits
  rw [Enc.emitted]
  omega

/-- The page's end appends the terminator, and zeros up to a byte boundary (R181 to R183). -/
theorem terminatePage_appends {pg : TxPage} (hg : 1 ≤ pg.outGrow) {e : Enc} (h : e.Packed)
    (hn : (e.terminatePage pg).nomem = false) :
    Appends e (terminatorBits pg.mode ++ zeros ((8 - (e.emitted + (terminatorBits pg.mode).length) % 8) % 8))
      (e.terminatePage pg) := by
  obtain ⟨hcodes, -⟩ := emitAll_appends hg ((terminatorCodes pg.mode).map codeBits) h (nomem_of_emit hn)
  have hpacked := emitAll_packed hg ((terminatorCodes pg.mode).map codeBits) h
  have hwait : (e.emitted + (terminatorBits pg.mode).length) % 8 = _ := hcodes.emitted ▸ hpacked.emitted_mod
  rw [hwait]
  exact (hcodes.trans (emit_appends hg _ hpacked hn)).congr ⟨rfl, rfl⟩ ⟨rfl, rfl⟩

/-- After the page's end no bit waits (R183). -/
theorem terminatePage_accBits {pg : TxPage} (hg : 1 ≤ pg.outGrow) {e : Enc} (h : e.Packed) :
    (e.terminatePage pg).accBits = 0 := pad_accBits hg (emitAll_packed hg _ h)

/-- A scripted answer of the row source (R313). -/
theorem answer_of_script {bpr : Nat} {src : RowSource} {a : RowAnswer} {rest : List RowAnswer}
    (h : src.script = a :: rest) : src.answer bpr = (a, { src with script := rest, calls := src.calls + 1 }) := by
  simp [RowSource.answer, h]

/-- The encoder after a call of the row source that gave no row: an end, or a read error (R184, R185). -/
def Enc.sourceEnded (pg : TxPage) (count : Int) (e : Enc) : Enc :=
  { e.afterRead (bytesPerRow pg.w) with srcDone := true, rowReadError := e.rowReadError || decide (count < 0) }

/-- A pull that is given no row ends the page (R177, R184, R185). -/
theorem encodeNextRow_end {pg : TxPage} {e : Enc} {a : RowAnswer} {rest : List RowAnswer}
    (hs : e.source.script = a :: rest) (ha : a.count ≤ 0) :
    e.encodeNextRow pg = .next ((e.sourceEnded pg a.count).terminatePage pg) := by
  rw [Enc.encodeNextRow, answer_of_script hs, Enc.takeAnswer, Enc.sourceEnded]
  rcases ha.lt_or_eq with hneg | hzero
  · rw [if_neg hneg.ne, if_pos hneg, decide_eq_true hneg, Bool.or_true]
  · rw [if_pos hzero, decide_eq_false (by omega), Bool.or_false]
    rfl

/-- Settles O52: the pull ends the page, and what that appends is the terminator and its padding. -/
theorem pulledEndTerminatesThePage : Obligations.PulledEndTerminatesThePage := by
  intro p pg e a rest term hinv hgrow hscript hcount hterm
  obtain rfl : term = terminatorBits pg.mode := hterm.trans (terminatorBits_eq pg.mode).symm
  have hpacked : (e.sourceEnded pg a.count).Packed := { hinv.packed with }
  have hframe := terminatePage_frame pg (e.sourceEnded pg a.count)
  obtain ⟨-, -, -, -, hsrc, hdone, herr, hrows⟩ := hframe.regs
  obtain ⟨-, hsource, -⟩ := hframe.pageRegs
  refine ⟨_, encodeNextRow_end hscript hcount, hsrc, hdone, terminatePage_accBits hgrow hpacked, hrows, herr,
    hsource.trans (congrArg Prod.snd (answer_of_script hscript)), fun hn => ?_⟩
  obtain ⟨hemitted, hbefore, hafter⟩ := (terminatePage_appends hgrow hpacked hn).congr (e' := e) ⟨rfl, rfl⟩ ⟨rfl, rfl⟩
  have hstart : (e.sourceEnded pg a.count).emitted = e.emitted := rfl
  rw [hstart] at hemitted hafter
  rw [List.length_append, zeros, List.length_replicate] at hemitted
  refine ⟨by omega, hbefore, fun j hj => ?_, fun k hge hlt => ?_⟩
  · rw [hafter j (by rw [List.length_append]; omega), List.getElem_append_left hj]
  · have hpad := hafter (k - e.emitted) (by rw [List.length_append, zeros, List.length_replicate]; omega)
    rw [Nat.add_sub_cancel' (by omega), List.getElem_append_right (by omega)] at hpad
    simpa [zeros] using hpad

end Sys2Proof.Machine
end

section
/-! PROOFS. Steps and code words that close no run (R205, R206, R217, R218, R226, R227, R229, R238, R342). -/

namespace Sys2Proof.Machine

/-! ## Steps without a code word -/

/-- With no decision due and no command, the block is idle (R342). -/
theorem step_of_idle {s : State} (hdue : decisionDue s = false) (hq : s.host.queue = []) : step s = .next s := by
  rw [step, nextWork, hdue, if_neg Bool.false_ne_true, hq]

/-- Settles O8: the decision that is due is a skip, a hunt or an unmatched bit, by the tests of R204 in their order. -/
theorem stepsThatReadNoCodeWord : Obligations.StepsThatReadNoCodeWord := by
  refine ⟨fun s m w h hdue he => ?_, fun s => step_of_idle⟩
  have hview := view_eq_win_of_decisionDue hdue
  rw [← hview] at he
  refine ⟨fun hs => ?_, fun hs heol => ?_, fun hs heol hrow hzero => ?_⟩
  · rw [step_eq_decide1 hdue, decide1_eq, decision_of_skip he hs]
    exact onRow_of_inRxPage h rfl
  · rw [step_eq_decide1 hdue, decide1_eq, decision_of_hunt he hs heol]
    exact onRow_of_inRxPage h rfl
  · rw [← hview] at hzero
    rw [step_eq_decide1 hdue, decide1_eq, decision_of_unmatched he hs heol hrow hzero]
    exact onRow_of_inRxPage h rfl

/-! ## Horizontal, extension, Null -/

/-- Settles O34: each of the three answers in every page, and its row operation is the update itself. -/
theorem horizontalExtensionAndNull : Obligations.HorizontalExtensionAndNull := by
  intro s m w h
  refine ⟨?_, ?_, ?_⟩
  · exact onRow_of_inRxPage (f := fun _ d => .next { d.matchedMode 3 with hpair := .first }) h rfl
  · exact onRow_of_inRxPage (f := fun _ d => .next ((d.matchedMode 7).log .ext)) h rfl
  · exact onRow_of_inRxPage (f := fun _ d => .next (d.dropUnmatched .null)) h rfl

/-! ## Pass -/

/-- A valid Pass within the bound ends in the row end check (R217). -/
theorem pass_eq_rowEnd {pg : RxPage} {b2 : Nat} {d : Dec} (hb2 : b2 = d.b2 pg) (hvalid : d.start ≤ b2)
    (hlim : d.rowLen + (b2 - d.start).toNat < Config.runLimit) :
    d.pass pg = Dec.t6RowEndCheck pg { d with runAcc := d.runAcc + (b2 - d.start).toNat, a0 := b2 } := by
  subst hb2
  rw [pass_valid hvalid, addRun_eq hlim, andThen_next]

/-- Settles O33: the open run is extended, and no row ends. -/
theorem passExtendsTheRun : Obligations.PassExtendsTheRun := by
  intro s m w b2 h hb2 hvalid hlim hrow
  refine onRow_of_inRxPage (f := fun pg d => (d.matchedMode 4).pass pg) h ?_
  rw [pass_eq_rowEnd (d := s.dec.matchedMode 4) hb2 hvalid hlim]
  exact t6RowEndCheck_eq (hrow.imp_right fun hin => ⟨Int.ofNat_lt.mpr hin.1, hin.2⟩)

/-! ## Backward modes -/

/-- A `b2` left of the position lies at the end of the row, so the position lies past it (R128, R217). -/
theorem length_lt_of_b2Of_lt {ref : List Color} {a0 : Int} {color : Color} (h : (b2Of ref a0 color : Int) < max a0 0) :
    (ref.length : Int) < a0 := by
  rcases Nat.lt_or_ge (b2Of ref a0 color) ref.length with hlt | hge
  · have := lt_b2Of hlt
    omega
  · omega

/-- Settles O35: an invalid mode is the update itself; for a P see `length_lt_of_b2Of_lt`. -/
theorem invalidModesLeaveTheRow : Obligations.InvalidModesLeaveTheRow := by
  refine fun s m w h => ⟨fun x hx hback => ?_, fun hback => ⟨?_, ?_⟩⟩
  · rw [exec_verticalRow x hx]
    exact onRow_of_inRxPage h (vertical_invalid (d := s.dec.matchedMode _) hback)
  · simpa only [expand_length] using length_lt_of_b2Of_lt hback
  · refine onRow_of_inRxPage (f := fun pg d => (d.matchedMode 4).pass pg) h ?_
    exact pass_invalid (d := s.dec.matchedMode 4) hback

end Sys2Proof.Machine
end

section
/-! PROOFS. What a commit does to the decoder, exactly, for a good and for a bad row (R260 to R262, R269 to R275), and the
code words that end a row: an EOL (R207 to R210), and in `T6` the code word that reaches the width or the backstop (R235 to
R237). -/

namespace Sys2Proof.Machine

/-! ## Closing the row -/

/-- With no open run, nothing is left to close (R260). -/
theorem closeRow_of_closed {pg : RxPage} {d : Dec} (hclosed : d.runAcc = 0) : d.closeRow pg = .next d :=
  if_neg (Nat.not_lt.mpr hclosed.le)

/-- With an open run, the row is closed by appending it (R260). -/
theorem closeRow_of_open {pg : RxPage} {d : Dec} (hopen : 0 < d.runAcc) :
    d.closeRow pg = d.appendRun pg.runsCap d.runAcc := if_pos hopen

/-- A commit with room in `IMG`, there or granted, stores the row's bytes, once they are known (R260). -/
theorem commitRow_of_data {pg : RxPage} {d d1 d2 : Dec} {data : List Byte} (hgrow : d.growImage pg = (true, d1))
    (hclose : d1.closeRow pg = .next d2) (hdata : d2.rowData pg = .next data)
    (hfit : d2.rows + 1 < Config.wordLimit) : d.commitRow pg = .next (d2.storeRow pg data) := by
  have hcounter : counterFits d2.rows = true := decide_eq_true hfit
  rw [Dec.commitRow, hgrow]
  dsimp only
  rw [hclose, andThen_next, hdata, andThen_next, if_pos hcounter]

/-! ## The bad row -/

/-- A bad row stores the row before it, or white before the first (R261, R269). -/
theorem rowData_of_bad {pg : RxPage} {d : Dec} {data : List Byte} (hbad : d.rowGood pg = false)
    (hlen : data.length = bytesPerRow pg.w)
    (hprev : 0 < d.rows → ∀ i < bytesPerRow pg.w, readByte d.img ((d.rows - 1) * bytesPerRow pg.w + i) = data[i]?)
    (hfirst : d.rows = 0 → data = List.replicate (bytesPerRow pg.w) 0) : d.rowData pg = .next data := by
  rw [Dec.rowData, hbad, if_neg Bool.false_ne_true, Dec.substitute]
  split
  · exact (memRead_eq_next_iff ..).mpr ⟨hlen, hprev ‹_›⟩
  · rw [hfirst (Nat.eq_zero_of_not_pos ‹_›)]

/-- The bad row's store: its patched runs become the reference, and the bad-row counters rise (R260, R270, R271). -/
theorem storeRow_of_bad {pg : RxPage} {d : Dec} (hbad : d.rowGood pg = false) (data : List Byte) :
    d.storeRow pg data = Dec.rowReset { d with
      img := memWrite d.img (d.rows * bytesPerRow pg.w) data
      refRuns := patchRuns pg.w d.curRuns
      rows := d.rows + 1
      page := PageStats.countBits d.bitsInRow
        { d.page with badRows := d.page.badRows + 1, curBadRun := d.page.curBadRun + 1 }
      bitsInRow := 0
      sink := d.sink ++ [⟨d.userData, some data, bytesPerRow pg.w⟩] } := by
  rw [Dec.storeRow, Dec.rowRuns, hbad]
  rfl

/-- The row bit statistics, written out (R273). -/
theorem countBits_eq (bits : Nat) (p : PageStats) :
    p.countBits bits = { p with
      minRowBits := some (match p.minRowBits with | none => bits | some b => min b bits)
      maxRowBits := some (match p.maxRowBits with | none => bits | some b => max b bits) } := by
  rw [PageStats.countBits]
  cases p.minRowBits <;> cases p.maxRowBits <;> rfl

/-- A row is bad by its sum or by its overflow flag (R261). -/
theorem rowGood_eq_false_iff {pg : RxPage} {d : Dec} :
    d.rowGood pg = false ↔ d.curRuns.sum ≠ pg.w ∨ d.overflow = true := by
  simp [Dec.rowGood, imp_iff_not_or]

/-- Closing a bad row takes the open run, or discards it where the RunArray is full; the row is bad either way (R215, R216,
R261). -/
theorem closeRow_of_bad {pg : RxPage} {d : Dec} {runs : List Nat}
    (hruns : runs = if 0 < d.runAcc ∧ d.curRuns.length < pg.runsCap - 2 then d.curRuns ++ [d.runAcc] else d.curRuns)
    (hv : d.runAcc < Config.runLimit)
    (hsum : 0 < d.runAcc → d.curRuns.length < pg.runsCap - 2 → runs.sum < Config.runLimit)
    (hbad : runs.sum ≠ pg.w ∨ d.overflow = true ∨ (0 < d.runAcc ∧ pg.runsCap - 2 ≤ d.curRuns.length)) :
    ∃ full, d.closeRow pg = .next { d with curRuns := runs, overflow := full } ∧
      Dec.rowGood pg { d with curRuns := runs, overflow := full } = false := by
  simp only [rowGood_eq_false_iff]
  rcases Nat.eq_zero_or_pos d.runAcc with hclosed | hopen
  · obtain rfl : runs = d.curRuns := by rw [hruns, if_neg (by omega)]
    exact ⟨d.overflow, closeRow_of_closed hclosed, hbad.imp_right fun h => h.resolve_right (by omega)⟩
  rw [closeRow_of_open hopen]
  rcases Nat.lt_or_ge d.curRuns.length (pg.runsCap - 2) with hfree | hfull
  · obtain rfl : runs = d.curRuns ++ [d.runAcc] := by rw [hruns, if_pos ⟨hopen, hfree⟩]
    have htotal : d.curRuns.sum + d.runAcc < Config.runLimit := by simpa using hsum hopen hfree
    exact ⟨d.overflow, appendRun_eq hfree htotal, hbad.imp_right fun h => h.resolve_right (by omega)⟩
  · obtain rfl : runs = d.curRuns := by rw [hruns, if_neg (by omega)]
    exact ⟨true, appendRun_overflow hfull hv, .inr rfl⟩

/-- Settles O41: the closed row is bad, so the row before it is stored again. -/
theorem commitSubstitutesABadRow : Obligations.CommitSubstitutesABadRow := by
  intro pg d runs data hruns hv hsum hbad hroom hfit hlen hprev hfirst
  obtain ⟨full, hclose, hclosed⟩ := closeRow_of_bad hruns hv hsum hbad
  rw [commitRow_of_data (growImage_of_room hroom.ne) hclose (rowData_of_bad hclosed hlen hprev hfirst) hfit,
    storeRow_of_bad hclosed, countBits_eq]
  rfl

/-! ## The good row -/

/-- The good row's store: its own runs become the reference, and a streak of bad rows is folded (R260, R270, R271). -/
theorem storeRow_of_good {pg : RxPage} {d : Dec} (hgood : d.rowGood pg = true) (data : List Byte) :
    d.storeRow pg data = Dec.rowReset { d with
      img := memWrite d.img (d.rows * bytesPerRow pg.w) data
      refRuns := d.curRuns
      rows := d.rows + 1
      page := PageStats.countBits d.bitsInRow
        { d.page with
          longestBadRun := if 0 < d.page.curBadRun then max d.page.longestBadRun d.page.curBadRun
            else d.page.longestBadRun
          curBadRun := 0 }
      bitsInRow := 0
      sink := d.sink ++ [⟨d.userData, some data, bytesPerRow pg.w⟩] } := by
  have hpage : d.page.countRow true = { d.page with
      longestBadRun := if 0 < d.page.curBadRun then max d.page.longestBadRun d.page.curBadRun
        else d.page.longestBadRun
      curBadRun := 0 } := by
    rw [PageStats.countRow, if_pos rfl]
    split
    · rfl
    · rw [← Nat.eq_zero_of_not_pos ‹_›]
  rw [Dec.storeRow, rowRuns_of_good hgood, hgood, hpage]

/-! ## The end of a `T6` row -/

/-- A `T6` row at its width or at the backstop is committed, and then the EOL counter is 0 (R236, R237). -/
theorem t6RowEndCheck_of_end {pg : RxPage} {d u : Dec} (hmode : pg.mode = .t6)
    (hend : (pg.w : Int) ≤ d.a0 ∨ maxRowCodes pg.w ≤ d.codes) (h : d.commitRow pg = .next u) :
    d.t6RowEndCheck pg = .next { u with eolCount := 0 } := by
  rw [Dec.t6RowEndCheck, if_pos ⟨hmode, hend⟩, h, andThen_next]

/-- A valid Vertical within the bounds takes its run and ends in the row end check (R214). -/
theorem vertical_eq_rowEnd {pg : RxPage} {off a1 : Int} {d : Dec} (ha1 : a1 = d.b1 pg + off) (hvalid : d.start ≤ a1)
    (hlim : d.rowLen + (a1 - d.start).toNat < Config.runLimit) :
    d.vertical off pg = Dec.t6RowEndCheck pg { d.takeRun pg.runsCap (d.runAcc + (a1 - d.start).toNat) with
      runAcc := 0, a0 := a1, color := d.color.flip } := by
  subst ha1
  have hsum : d.curRuns.sum + (d.runAcc + (d.b1 pg + off - d.start).toNat) < Config.runLimit := by
    rwa [← Nat.add_assoc]
  rw [vertical_valid hvalid, appendRun_eq_takeRun ((Nat.le_add_left ..).trans_lt hsum) (.inr hsum), andThen_next]

/-- The second code of a pair within the bounds takes its run and ends in the row end check (R230, R231, R235). -/
theorem terminate_eq_rowEnd {pg : RxPage} {n : Nat} {d : Dec} (h2d : d.rowIs2d = true) (hpair : d.hpair = .second)
    (hlim : d.rowLen + n < Config.runLimit) :
    d.terminate n pg = Dec.t6RowEndCheck pg { d.takeRun pg.runsCap (d.runAcc + n) with
      runAcc := 0, color := d.color.flip, codes := d.codes + 1, hpair := .none,
      a0 := ((d.takeRun pg.runsCap (d.runAcc + n)).curRuns.sum : Nat) } := by
  have hsum : d.curRuns.sum + (d.runAcc + n) < Config.runLimit := by rwa [← Nat.add_assoc]
  rw [Dec.terminate, appendRun_eq_takeRun ((Nat.le_add_left ..).trans_lt hsum) (.inr hsum), andThen_next]
  dsimp only
  rw [if_pos (show (d.takeRun pg.runsCap (d.runAcc + n)).rowIs2d = true from h2d)]
  exact hpairAdvance_of_second hpair

/-- Settles O36: each of the three takes its pixels and ends in the row end check, which commits the row. -/
theorem t6RowEndCommitsTheRow : Obligations.T6RowEndCommitsTheRow := by
  refine fun s w d h => ⟨fun x a1 hx ha1 hvalid hlim hend hcommit => ?_, fun b2 hb2 hvalid hlim hend hcommit => ?_,
    fun n r runs hr h2d hpair hlim hruns hend hcommit => ?_⟩
  · rw [exec_verticalRow x hx]
    refine onRow_of_inRxPage h ?_
    rw [vertical_eq_rowEnd (pg := rxPageOf s .t6 w) (d := s.dec.matchedMode (codeBits x.1).length) ha1 hvalid hlim]
    exact t6RowEndCheck_of_end rfl hend hcommit
  · refine onRow_of_inRxPage (f := fun pg d => (d.matchedMode 4).pass pg) h ?_
    rw [pass_eq_rowEnd (d := s.dec.matchedMode 4) hb2 hvalid hlim]
    exact t6RowEndCheck_of_end rfl (hend.imp_left Int.ofNat_le.mpr) hcommit
  · subst hruns
    rw [length_codeBits_termRow hr] at hcommit
    rw [exec_termRow hr]
    refine onRow_of_inRxPage h ?_
    rw [terminate_eq_rowEnd (d := s.dec.matched r.len) h2d hpair hlim]
    exact t6RowEndCheck_of_end rfl (hend.imp_left Int.ofNat_le.mpr) hcommit

/-- A run that the RunArray has room for is appended (R215). -/
theorem takeRun_of_free {cap : Nat} {d : Dec} (hfree : d.curRuns.length < cap - 2) (v : Nat) :
    d.takeRun cap v = { d with curRuns := d.curRuns ++ [v] } := by
  simp [Dec.takeRun, Nat.not_le.mpr hfree]

/-- Settles O37: the run up to the width is taken, and the row end check stores a good row. -/
theorem t6RowEndsAtItsWidth : Obligations.T6RowEndsAtItsWidth := by
  rintro x s w runs hx h hwidth ha0 rfl hsum hw hover hfree hroom hfit
  have hlim : s.dec.rowLen + ((w.toNat : Int) - max s.dec.a0 0).toNat < Config.runLimit := by
    rw [List.sum_append, List.sum_singleton, ← Nat.add_assoc] at hsum
    exact hsum.trans_lt hw
  rw [exec_verticalRow x (List.mem_of_mem_take (i := 4) (l := verticalRows) hx)]
  refine onRow_of_inRxPage h ?_
  rw [vertical_eq_rowEnd (pg := rxPageOf s .t6 w) (d := s.dec.matchedMode (codeBits x.1).length) hwidth.symm
    (max_le ha0 (Int.natCast_nonneg _)) hlim, takeRun_of_free (by exact hfree)]
  have hgood : Dec.rowGood (rxPageOf s .t6 w) { s.dec.matchedMode (codeBits x.1).length with
      curRuns := s.dec.curRuns ++ [s.dec.runAcc + ((w.toNat : Int) - max s.dec.a0 0).toNat]
      runAcc := 0, a0 := w.toNat, color := s.dec.color.flip } = true := by
    simp [Dec.rowGood, hsum, hover, rxPageOf]
  have hcommit := commitRow_of_good (by exact hroom.ne) (by exact rfl) hgood (by exact hfit)
  rw [storeRow_of_good hgood, countBits_eq] at hcommit
  exact t6RowEndCheck_of_end rfl (.inl le_rfl) hcommit

/-! ## End of line -/

theorem growImage_trace (pg : RxPage) (d : Dec) : (d.growImage pg).2.trace = d.trace := by
  rcases growImage_cases pg d with ⟨_, hgrow⟩ | ⟨_, _, hgrow⟩ | ⟨_, _, hgrow⟩ <;> rw [hgrow]

/-- A commit logs nothing (R247, R260). -/
theorem commitRow_trace {pg : RxPage} {d t : Dec} (h : d.commitRow pg = .next t) : t.trace = d.trace := by
  have hgrow := growImage_trace pg d
  rcases commitRow_eq_next h with hg | ⟨d1, d2, data, hg, h2, -, -, rfl⟩
  · rwa [hg] at hgrow
  · rw [hg] at hgrow
    obtain ⟨runs, full, rfl⟩ := closeRow_frame h2
    exact hgrow

/-- The first EOL after a row is below every threshold (R210). -/
theorem one_lt_eolThreshold (m : Mode) : 1 < eolThreshold m := by cases m <;> decide

/-- An EOL with a row before it commits the row and counts as the first (R207 to R210). -/
theorem eol_of_row {tag : Option Bool} {pg : RxPage} {d u : Dec} (hcount : d.eolCount ≠ -1) (hrow : 0 < d.rowLen)
    (h : Dec.commitRow pg { d.drop (eolBits tag) with skip := 0 } = .next u) :
    d.eol tag pg = .next { u with
      eolCount := 1
      rowIs2d := tag.elim u.rowIs2d not
      bitsInRow := eolBits tag
      trace := u.trace ++ [.eol] } := by
  rw [Dec.eol, Dec.eolRow, if_neg (by exact hcount), if_pos (by exact hrow), h, andThen_next, andThen_next]
  cases tag <;> simp [Dec.eolFinish, Dec.log, one_lt_eolThreshold]

/-- Settles O39: the commit, and the rest of the EOL on registers that the commit left alone. -/
theorem eolCommitsTheRow : Obligations.EolCommitsTheRow := by
  rintro s w ⟨i, m, tag, bits⟩ d hx hpage hcount hrow hcommit
  dsimp only at hpage hcommit ⊢
  obtain ⟨hexec, rfl⟩ := exec_eolForm hx hpage
  obtain ⟨hout, -, -⟩ := commitRow_keeps hcommit
  have hcomplete : d.complete = s.dec.complete := congrArg DecOutside.complete hout
  have his2d : d.rowIs2d = s.dec.rowIs2d := congrArg DecOutside.is2d hout
  have htrace : d.trace = s.dec.trace := (commitRow_trace hcommit :)
  refine ⟨?_, hcomplete⟩
  rw [hexec, ← htrace, ← his2d]
  refine onRow_of_inRxPage hpage ((eol_of_row hcount hrow hcommit).trans ?_)
  cases tag <;> rfl

end Sys2Proof.Machine
end

section
/-! PROOFS. Every code word is one of the operations on the row in progress, with its parameters in the bounds of the tables
(R92 to R99, R104, R105). -/

namespace Sys2Proof.Machine

/-- The row operations of the code words: a terminating code of at most 63, a make-up code of at most 2560, a Vertical mode
of at most 3 to the right, and the codes without a parameter. -/
inductive CodeOp : (RxPage → Dec → Res Dec) → Prop where
  | terminating {w n : Nat} (hn : n ≤ 63) : CodeOp fun pg d => (d.matched w).terminate n pg
  | makeup {w n : Nat} (hn : n ≤ 2560) : CodeOp fun _ d => (d.matched w).addRun n
  | vertical {w : Nat} {off : Int} (hoff : off ≤ 3) : CodeOp fun pg d => (d.matchedMode w).vertical off pg
  | pass : CodeOp fun pg d => (d.matchedMode 4).pass pg
  | horiz : CodeOp fun _ d => .next { d.matchedMode 3 with hpair := .first }
  | ext2d : CodeOp fun _ d => .next ((d.matchedMode 7).log .ext)
  | null2d : CodeOp fun _ d => .next (d.dropUnmatched .null)
  | eol (tag : RxPage → Dec → Option Bool) : CodeOp fun pg d => d.eol (tag pg d) pg

/-- An instruction that is such a row operation. -/
def RunsCodeOp (i : Instr) : Prop := ∃ f, CodeOp f ∧ ∀ s, exec i s = onRow s f

/-- The runs of a terminating table are below 64 (R104). -/
theorem run_le_of_mem_termRows {c : Color} {r : CodeRow} (h : r ∈ termRows c) : r.run ≤ 63 := by
  have hmem := List.mem_map_of_mem (f := CodeRow.run) h
  rw [map_run_termRows, List.mem_range] at hmem
  exact Nat.le_of_lt_succ hmem

/-- No make-up code is longer than 2560 (R104, R160). -/
theorem run_le_of_mem_makeupRows : ∀ r ∈ whiteMakeupRows ++ blackMakeupRows ++ extMakeupRows, r.run ≤ 2560 := by decide

theorem offset_le_of_mem_verticalRows : ∀ x ∈ verticalRows, x.2 ≤ 3 := by decide

theorem runsCodeOp_of_termRow {c : Color} {r : CodeRow} (h : r ∈ termRows c) : RunsCodeOp r.instr :=
  ⟨_, .terminating (run_le_of_mem_termRows h), exec_of_mem_termRows c r h⟩

theorem runsCodeOp_of_makeupRow {r : CodeRow} (h : r ∈ whiteMakeupRows ++ blackMakeupRows ++ extMakeupRows) :
    RunsCodeOp r.instr := ⟨_, .makeup (run_le_of_mem_makeupRows r h), exec_of_mem_makeupRows r h⟩

theorem runsCodeOp_of_verticalRow : ∀ x ∈ verticalRows, RunsCodeOp x.1 := fun x hx =>
  ⟨_, .vertical (offset_le_of_mem_verticalRows x hx), exec_verticalRow x hx⟩

/-- The mode codes that are no Vertical, and the EOL forms. -/
theorem runsCodeOp_of_others :
    ∀ i ∈ [Instr.pass, .horiz, .ext2d, .null2d, .eol, .eol1, .eol0], RunsCodeOp i := by
  refine List.forall_iff_forall_mem.mp ⟨?_, ?_, ?_, ?_, ?_, ?_, ?_⟩
  · exact ⟨_, .pass, fun _ => rfl⟩
  · exact ⟨_, .horiz, fun _ => rfl⟩
  · exact ⟨_, .ext2d, fun _ => rfl⟩
  · exact ⟨_, .null2d, fun _ => rfl⟩
  · exact ⟨_, .eol fun pg d => if pg.mode = .t42d then some (d.view.getLsbD 12) else none, fun _ => rfl⟩
  · exact ⟨_, .eol fun _ _ => some true, fun _ => rfl⟩
  · exact ⟨_, .eol fun _ _ => some false, fun _ => rfl⟩

theorem runsCodeOp_of_modeRow : ∀ r ∈ modeRows, RunsCodeOp r.instr := by
  have hmodes : ∀ r ∈ modeRows, (∃ x ∈ verticalRows, x.1 = r.instr) ∨
      r.instr ∈ [Instr.pass, .horiz, .ext2d, .null2d, .eol, .eol1, .eol0] := by decide
  intro r hr
  rcases hmodes r hr with ⟨x, hx, hinstr⟩ | hother
  · exact hinstr ▸ runsCodeOp_of_verticalRow x hx
  · exact runsCodeOp_of_others _ hother

/-- Every code word is a row operation: it stands in one of the tables, or is an EOL. -/
theorem runsCodeOp {i : Instr} (h : isCodeWord i = true) : RunsCodeOp i := by
  have hi := List.mem_of_getElem? (getElem?_codeWords h)
  simp only [codeWords, List.map_append, List.mem_append, List.mem_map] at hi
  rcases hi with (((((⟨r, hr, rfl⟩ | ⟨r, hr, rfl⟩) | ⟨r, hr, rfl⟩) | ⟨r, hr, rfl⟩) | ⟨r, hr, rfl⟩) | ⟨r, hr, rfl⟩) | hi
  · exact runsCodeOp_of_termRow (c := .white) hr
  · exact runsCodeOp_of_termRow (c := .black) hr
  · exact runsCodeOp_of_makeupRow (by simp [hr])
  · exact runsCodeOp_of_makeupRow (by simp [hr])
  · exact runsCodeOp_of_makeupRow (by simp [hr])
  · exact runsCodeOp_of_modeRow r hr
  · exact runsCodeOp_of_others i (List.mem_append_right [Instr.pass, .horiz, .ext2d, .null2d] hi)

/-- Every decision is an operation on the row in progress (R204). -/
theorem decide1_eq_onRow (s : State) : ∃ f, decide1 s = onRow s f := by
  rw [decide1_eq]
  cases hd : s.dec.decision with
  | code i =>
    obtain ⟨f, -, hf⟩ := runsCodeOp (isCodeWord_of_decision hd)
    exact ⟨f, hf s⟩
  | skip | hunt | unmatched => exact ⟨_, rfl⟩

end Sys2Proof.Machine
end

section
/-! PROOFS. RX_END_PAGE drains the window and commits the partial row (R241, R242, R307), and after the page's end a PUT
command discards its bits (R203). -/

namespace Sys2Proof.Machine

/-! ## The window bits that a decision rests on (R241) -/

/-- Of an EOL, the drain needs all the bits that its form consumes (R92, R241). -/
theorem length_le_need_of_eol {d : Dec} {i : Instr} (he : isEol d.view = true)
    (hi : decodeCode (.eol d.tagged) d.view = .ok i) : (codeBits i).length ≤ d.need := by
  have hmem := mem_wordsOf_of_decodeCode hi
  rw [Dec.need, if_pos he]
  cases htag : d.tagged with
  | false =>
    obtain rfl : i = .eol := by simpa [htag, wordsOf] using hmem
    exact Nat.le_of_ble_eq_true rfl
  | true =>
    obtain rfl | rfl : i = .eol1 ∨ i = .eol0 := by simpa [htag, wordsOf] using hmem
    · exact Nat.le_of_ble_eq_true rfl
    · exact Nat.le_of_ble_eq_true rfl

/-- Of a code word of the row's context, the drain needs all the bits, but for `Null` (R241). -/
theorem length_le_need_of_context {d : Dec} {i : Instr} (he : isEol d.view = false) (hs : ¬ 0 < d.skip)
    (hc : d.eolCount ≠ -1) (hi : decodeCode d.context d.view = .ok i) (hnull : i ≠ .null2d) :
    (codeBits i).length ≤ d.need := by
  rw [Dec.need, he, if_neg Bool.false_ne_true, if_neg (not_or.mpr ⟨hs, hc⟩)]
  cases hcontext : d.context with
  | mode2d =>
    rw [hcontext] at hi
    obtain ⟨r, hr, rfl⟩ := (decodeCode_mode2d_eq_ok_iff _ _).mp hi
    simp only [hr, if_neg hnull]
    exact (written_of_mem_modeRows r (lookupRow_mem hr).1).1.le
  | run color =>
    rw [hcontext] at hi
    obtain ⟨r, hr, rfl⟩ := (decodeCode_run_eq_ok_iff _ _ _).mp hi
    simp only [hr]
    exact (written_of_mem_runRows color r (lookupRow_mem hr).1).1.le
  | eol tagged =>
    rw [context_eq_ite] at hcontext
    split at hcontext <;> cases hcontext

/-- The code word that the drain decodes lies in the bits it needs (R241). -/
theorem length_le_need {d : Dec} {i : Instr} (h : d.decision = .code i) (hnull : i ≠ .null2d) :
    (codeBits i).length ≤ d.need := by
  unfold Dec.decision at h
  split at h
  · split at h <;> cases h
    exact length_le_need_of_eol ‹_› ‹_›
  rename_i he
  split at h
  · cases h
  split at h
  · cases h
  split at h <;> cases h
  exact length_le_need_of_context (Bool.eq_false_of_not_eq_true he) ‹_› ‹_› ‹_› hnull

/-- A drain that goes on has the bits it needs (R241). -/
theorem need_le_of_drains {d : Dec} (h : d.drains = true) : 0 < d.winCount ∧ d.need ≤ d.winCount := by
  simp only [Dec.drains, Bool.and_eq_true, decide_eq_true_eq] at h
  exact ⟨h.1.1.1, h.2⟩

/-! ## The drain, decision by decision -/

theorem drainLoop_stop {s : State} (h : s.dec.drains = false) (fuel : Nat) : drainLoop fuel s = .next s := by
  cases fuel with
  | zero => rfl
  | succ n => rw [drainLoop, h, if_neg Bool.false_ne_true]

/-- As many decisions as the window holds bits are enough for the drain (R241, log 24). -/
theorem drainLoop_fuel {m n : Nat} {s : State} (hm : s.dec.winCount ≤ m) (hn : s.dec.winCount ≤ n) :
    drainLoop m s = drainLoop n s := by
  induction m generalizing n s with
  | zero =>
    have hstop : s.dec.drains = false := by simp [Dec.drains, Nat.le_zero.mp hm]
    rw [drainLoop_stop hstop, drainLoop_stop hstop]
  | succ m ih =>
    cases hdrains : s.dec.drains with
    | false => rw [drainLoop_stop hdrains, drainLoop_stop hdrains]
    | true =>
      have hpos := (need_le_of_drains hdrains).1
      obtain ⟨k, rfl⟩ := Nat.exists_eq_add_one_of_ne_zero (hpos.trans_le hn).ne'
      rw [drainLoop, drainLoop, if_pos hdrains, if_pos hdrains]
      refine andThen_congr fun t ht => ?_
      have hcount := (decide1_keeps ht).1.window
      exact ih (by omega) (by omega)

/-- The drain is one decision and then the drain (R241). -/
theorem drain_of_drains {s : State} (h : s.dec.drains = true) : drain s = andThen (decide1 s) drain := by
  obtain ⟨k, hk⟩ := Nat.exists_eq_add_one_of_ne_zero (need_le_of_drains h).1.ne'
  rw [drain, hk, drainLoop, if_pos h]
  refine andThen_congr fun t ht => ?_
  have hcount := (decide1_keeps ht).1.window
  exact drainLoop_fuel (by omega) le_rfl

/-- While the drain goes on, RX_END_PAGE is one decision and then RX_END_PAGE, its fault included (R241, R307). -/
theorem execRxEndPage_of_drains {s : State} (h : s.dec.drains = true) :
    execRxEndPage s = andThen (decide1 s) execRxEndPage := by
  cases hp : rxPage s with
  | next pg =>
    rw [execRxEndPage, hp, andThen_next, drain_of_drains h, andThen_assoc]
    refine andThen_congr fun t ht => ?_
    rw [execRxEndPage, (decide1_pageKeeps ht).page, hp, andThen_next]
  | fault x | refused x =>
    obtain ⟨f, hf⟩ := decide1_eq_onRow s
    rw [execRxEndPage, hf, onRow, hp]
    rfl

/-- A bit that is no code word, in the drain (R205, R206, R229, R241). -/
theorem execRxEndPage_of_bit {s : State} {m : Mode} {w : Word} {f : Dec → Dec} (hpage : InRxPage s m w)
    (h : s.dec.drains = true) (hdecide : decide1 s = onRow s fun _ d => .next (f d)) :
    execRxEndPage s = execRxEndPage (s.withDec (f s.dec)) := by
  rw [execRxEndPage_of_drains h, hdecide, onRow_of_inRxPage hpage rfl, andThen_next]

/-! ## The partial row -/

/-- A commit ends with no memory or with an empty row (R211, R260, R272). -/
theorem commitRow_ends {pg : RxPage} {d t : Dec} (h : d.commitRow pg = .next t) : t.nomem = true ∨ t.rowLen = 0 := by
  rcases commitRow_eq_next h with hg | ⟨d1, d2, data, -, -, -, -, rfl⟩
  · rcases growImage_cases pg d with ⟨_, hgrow⟩ | ⟨_, _, hgrow⟩ | ⟨_, _, hgrow⟩ <;> rw [hgrow] at hg <;> cases hg
    exact .inl rfl
  · exact .inr rfl

/-- Nothing is committed where no row is in progress, or the page is over (R242). -/
theorem commitPartial_of_none {s : State} (h : s.dec.nomem = true ∨ s.dec.rowLen = 0) : commitPartial s = .next s := by
  rw [commitPartial, if_neg]
  rcases h with h | h <;> simp [h]

/-- The state with another number of valid window bits. -/
def State.withCount (n : Nat) (s : State) : State := s.withDec { s.dec with winCount := n }

/-- The end of the page neither reads nor writes the number of valid window bits (R307). -/
theorem closePage_commutes_withCount (pg : RxPage) (n : Nat) : Commutes (State.withCount n) (closePage pg) :=
  .bind (fun _ => rfl) fun _ => .answer fun _ => rfl

/-- Where the drain is over and nothing is left to commit, RX_END_PAGE closes the page (R307). -/
theorem execRxEndPage_of_done {s : State} {pg : RxPage} (hp : rxPage s = .next pg) (hdrains : s.dec.drains = false)
    (hrow : s.dec.nomem = true ∨ s.dec.rowLen = 0) : execRxEndPage s = closePage pg s := by
  rw [execRxEndPage, hp, andThen_next, drain, drainLoop_stop hdrains, andThen_next, commitPartial_of_none hrow,
    andThen_next]

/-- Where the drain is over and a row is in progress, RX_END_PAGE commits it and closes the page (R242, R307). -/
theorem execRxEndPage_of_partial {s : State} {pg : RxPage} {d : Dec} (hp : rxPage s = .next pg)
    (hdrains : s.dec.drains = false) (hc : s.dec.complete = false) (hn : s.dec.nomem = false) (hrow : 0 < s.dec.rowLen)
    (hcommit : s.dec.commitRow pg = .next d) : execRxEndPage s = closePage pg (s.withDec d) := by
  have hpartial : commitPartial s = .next (s.withDec d) := by
    rw [commitPartial, if_pos (by simp [hc, hn, hrow]), onRow_eq hp, hcommit, andThen_next]
  rw [execRxEndPage, hp, andThen_next, drain, drainLoop_stop hdrains, andThen_next, hpartial, andThen_next]

/-- Settles O22: the drain goes decision by decision; the commit leaves nothing to commit, and the end of the page does not
look at the window. -/
theorem rxEndPageDrainsAndCommits : Obligations.RxEndPageDrainsAndCommits := by
  refine ⟨fun s i hlife hdrains hi => ⟨fun hnull => ?_, fun t ht => ?_, fun x hx => ?_⟩, fun s m w h hdrains he =>
    ⟨fun hs => ?_, fun hs heol => ?_, fun hs heol hrow hzero => ?_⟩, fun s m w d h hdrains hc hn hrow hcommit => ?_⟩
  · exact (length_le_need hi hnull).trans (need_le_of_drains hdrains).2
  · change execRxEndPage s = execRxEndPage t
    rw [execRxEndPage_of_drains hdrains, decide1_eq, hi]
    dsimp only
    rw [ht, andThen_next]
  · change execRxEndPage s = _
    rw [execRxEndPage_of_drains hdrains, decide1_eq, hi]
    dsimp only
    rw [hx, andThen_fault]
  · refine execRxEndPage_of_bit (f := Dec.skipBit) h hdrains ?_
    rw [decide1_eq, decision_of_skip he hs]
  · refine execRxEndPage_of_bit (f := Dec.huntBit) h hdrains ?_
    rw [decide1_eq, decision_of_hunt he hs heol]
  · refine execRxEndPage_of_bit (f := Dec.dropUnmatched .bad1d) h hdrains ?_
    rw [decide1_eq, decision_of_unmatched he hs heol hrow hzero]
  · have hp := rxPage_of_inRxPage h
    obtain ⟨hout, -, -⟩ := commitRow_keeps hcommit
    have hpEmpty : rxPage (s.withDec { d with winCount := 0 }) = .next (rxPageOf s m w) :=
      (rxPage_congr (s := s) (t := s.withDec { d with winCount := 0 }) rfl (congrArg DecOutside.setup hout)).trans hp
    have hends := commitRow_ends hcommit
    change execRxEndPage s = andThen (execRxEndPage _) _
    rw [execRxEndPage_of_partial hp hdrains hc hn hrow hcommit,
      execRxEndPage_of_done hpEmpty rfl hends]
    exact closePage_commutes_withCount _ d.winCount (s.withDec { d with winCount := 0 })

/-! ## After the page's end -/

/-- Bits after the page's end, or after a memory failure, are discarded (R203). -/
theorem decodeBits_discard {s : State} (bits : List Bool) (h : s.dec.complete = true ∨ s.dec.nomem = true) :
    decodeBits bits s = .next s := by
  induction bits with
  | nil => rfl
  | cons b bits ih => rw [decodeBits, decodeBit_discard b h, andThen_next, ih]

/-- The status of a PUT command that met the page's end or a memory failure (R243). -/
theorem putStatus_of_over {d : Dec} (h : d.complete = true ∨ d.nomem = true) :
    putStatus d = if d.nomem then 4 else 1 := by
  cases hn : d.nomem with
  | true => simp [putStatus, hn, statusNomem]
  | false => simp [putStatus, hn, h.resolve_right (by simp [hn]), statusOk]

/-- Settles O26: no bit is decoded, and `invalid` is cleared before them. -/
theorem putAfterThePageEndDiscards : Obligations.PutAfterThePageEndDiscards := by
  intro i s m w hi hpage hover
  have hdiscard := decodeBits_discard (s := s.withDec { s.dec with invalid := false }) (putBitsOf i) hover
  have hstatus := putStatus_of_over (d := { s.dec with invalid := false }) hover
  rw [exec_put_eq hi (rxPage_of_inRxPage hpage), putBits, rxPage_of_inRxPage hpage, andThen_next, hdiscard, andThen_next,
    State.withDec_dec, hstatus]

end Sys2Proof.Machine
end

section
/-! PROOFS. A PUT command answers, whatever its bits are (R201, R243, R315, R343): below the bounds of R12 and R333 no row
operation faults, and each adds at most a known number of pixels to the row and one row to the page. -/

namespace Sys2Proof.Machine

/-! ## Operations that answer -/

/-- An operation answers; it adds at most `n` pixels to the row in progress and one row to the page, and counts no bit. -/
def Adds (n : Nat) (d : Dec) (r : Res Dec) : Prop :=
  ∃ t, r = .next t ∧ t.rowLen ≤ d.rowLen + n ∧ t.rows ≤ d.rows + 1 ∧ t.pageBits = d.pageBits

/-- What a commit needs so as not to fault: the row's total below its bound, the committed rows in `IMG`, and a number left
for one more row (R12, R71, R333). -/
structure CanCommit (pg : RxPage) (d : Dec) : Prop where
  total : d.rowLen < Config.runLimit
  listed : ∀ i < d.rows * bytesPerRow pg.w, (readByte d.img i).isSome
  fit : d.rows + 1 < Config.wordLimit

/-- An update that counts neither pixels nor rows nor bits. -/
theorem Adds.answer {n : Nat} {d t : Dec} (hlen : t.rowLen ≤ d.rowLen + n) (hrows : t.rows = d.rows)
    (hbits : t.pageBits = d.pageBits) : Adds n d (.next t) := ⟨t, rfl, hlen, hrows.le.trans (Nat.le_succ _), hbits⟩

/-- An operation after an update that adds pixels. -/
theorem Adds.after {k n : Nat} {d u : Dec} {r : Res Dec} (h : Adds k u r) (hlen : u.rowLen + k ≤ d.rowLen + n)
    (hrows : u.rows = d.rows) (hbits : u.pageBits = d.pageBits) : Adds n d r := by
  obtain ⟨t, hr, htlen, htrows, htbits⟩ := h
  exact ⟨t, hr, htlen.trans hlen, hrows ▸ htrows, htbits.trans hbits⟩

/-- An update after an operation that keeps the counters. -/
theorem Adds.before {n : Nat} {d : Dec} {r : Res Dec} {f : Dec → Dec} (h : Adds n d r)
    (hlen : ∀ t, (f t).rowLen ≤ t.rowLen) (hrows : ∀ t, (f t).rows = t.rows)
    (hbits : ∀ t, (f t).pageBits = t.pageBits) : Adds n d (andThen r fun t => .next (f t)) := by
  obtain ⟨t, rfl, htlen, htrows, htbits⟩ := h
  exact ⟨f t, rfl, (hlen t).trans htlen, (hrows t).le.trans htrows, (hbits t).trans htbits⟩

theorem Adds.mono {k n : Nat} {d : Dec} {r : Res Dec} (h : Adds k d r) (hk : k ≤ n) : Adds n d r :=
  h.after (Nat.add_le_add_left hk _) rfl rfl

/-! ## Commit -/

/-- A read of bytes that are there answers (R13). -/
theorem exists_memRead {m : Memory} {addr n : Nat} (h : ∀ i < n, (readByte m (addr + i)).isSome) :
    ∃ vs, memRead m addr n = .next vs := by
  refine ⟨(List.range n).map fun i => (readByte m (addr + i)).getD 0, ?_⟩
  refine (memRead_eq_next_iff ..).mpr ⟨by simp, fun i hi => ?_⟩
  obtain ⟨v, hv⟩ := Option.isSome_iff_exists.mp (h i hi)
  simp [hi, hv]

/-- Every row has its bytes: the row before it is in `IMG` (R262, R269). -/
theorem exists_rowData {pg : RxPage} {d : Dec} (h : ∀ i < d.rows * bytesPerRow pg.w, (readByte d.img i).isSome) :
    ∃ data, d.rowData pg = .next data := by
  rw [Dec.rowData]
  split
  · exact ⟨_, rfl⟩
  rw [Dec.substitute]
  split
  · rename_i hpos
    have hrows : (d.rows - 1) * bytesPerRow pg.w + bytesPerRow pg.w = d.rows * bytesPerRow pg.w := by
      rw [← Nat.succ_mul, Nat.succ_eq_add_one, Nat.sub_add_cancel hpos]
    exact exists_memRead fun i hi => h _ (by omega)
  · exact ⟨_, rfl⟩

/-- Below the bound of the row's total its open run can be closed (R12, R260). -/
theorem exists_closeRow {pg : RxPage} {d : Dec} (h : d.rowLen < Config.runLimit) : ∃ t, d.closeRow pg = .next t := by
  rcases Nat.eq_zero_or_pos d.runAcc with hclosed | hopen
  · exact ⟨_, closeRow_of_closed hclosed⟩
  · rw [closeRow_of_open hopen]
    exact ⟨_, appendRun_eq_takeRun ((Nat.le_add_left ..).trans_lt h) (.inr h)⟩

/-- A commit with room for its row answers: one row more, and an empty row in progress (R260). -/
theorem commitRow_adds_of_room {pg : RxPage} {d d1 : Dec} (hgrow : d.growImage pg = (true, d1)) (h : CanCommit pg d1) :
    Adds 0 d1 (d.commitRow pg) := by
  obtain ⟨d2, hclose⟩ := exists_closeRow (pg := pg) h.total
  obtain ⟨runs, full, rfl⟩ := closeRow_frame hclose
  obtain ⟨data, hdata⟩ := exists_rowData (d := { d1 with curRuns := runs, overflow := full }) h.listed
  exact ⟨_, commitRow_of_data hgrow hclose hdata h.fit, Nat.zero_le _, le_rfl, rfl⟩

/-- A commit answers, without memory too (R260, R272). -/
theorem commitRow_adds {pg : RxPage} {d : Dec} (h : CanCommit pg d) : Adds 0 d (d.commitRow pg) := by
  rcases growImage_cases pg d with ⟨_, hgrow⟩ | ⟨_, _, hgrow⟩ | ⟨_, _, hgrow⟩
  · exact commitRow_adds_of_room hgrow h
  · exact (commitRow_adds_of_room hgrow ⟨h.total, h.listed, h.fit⟩).after le_rfl rfl rfl
  · rw [Dec.commitRow, hgrow]
    exact .answer le_rfl rfl rfl

theorem t6RowEndCheck_adds {pg : RxPage} {d : Dec} (h : CanCommit pg d) : Adds 0 d (d.t6RowEndCheck pg) := by
  rw [Dec.t6RowEndCheck]
  split
  · exact (commitRow_adds h).before (fun _ => le_rfl) (fun _ => rfl) fun _ => rfl
  · exact .answer le_rfl rfl rfl

/-! ## Run codes -/

theorem hpairAdvance_adds {pg : RxPage} {d : Dec} (h : CanCommit pg d) : Adds 0 d (d.hpairAdvance pg) := by
  rw [Dec.hpairAdvance]
  cases d.hpair with
  | none => exact .answer le_rfl rfl rfl
  | first => exact .answer le_rfl rfl rfl
  | second => exact t6RowEndCheck_adds (d := { d with hpair := .none, a0 := d.curRuns.sum }) ⟨h.total, h.listed, h.fit⟩

theorem addRun_adds {n : Nat} {d : Dec} (hlim : d.rowLen + n < Config.runLimit) : Adds n d (d.addRun n) := by
  rw [addRun_eq hlim]
  exact .answer (Nat.add_assoc ..).ge rfl rfl

/-- A run taken adds its pixels to the row's runs, or none (R215, R216). -/
theorem sum_takeRun_le (cap v : Nat) (d : Dec) : (d.takeRun cap v).curRuns.sum ≤ d.curRuns.sum + v := by
  rw [Dec.takeRun]
  dsimp only
  split
  · exact Nat.le_add_right ..
  · simp

/-- The run that closes the open run with `n` more pixels (R214, R230, R231). -/
theorem appendRun_runAcc {pg : RxPage} {n : Nat} {d : Dec} (hlim : d.rowLen + n < Config.runLimit) :
    d.appendRun pg.runsCap (d.runAcc + n) = .next (d.takeRun pg.runsCap (d.runAcc + n)) ∧
      (d.takeRun pg.runsCap (d.runAcc + n)).curRuns.sum ≤ d.rowLen + n := by
  have hsum : d.curRuns.sum + (d.runAcc + n) = d.rowLen + n := (Nat.add_assoc ..).symm
  exact ⟨appendRun_eq_takeRun (by omega) (.inr (hsum ▸ hlim)), hsum ▸ sum_takeRun_le ..⟩

theorem terminate_adds {pg : RxPage} {n : Nat} {d : Dec} (h : CanCommit pg d) (hlim : d.rowLen + n < Config.runLimit) :
    Adds n d (d.terminate n pg) := by
  obtain ⟨hrun, hsum⟩ := appendRun_runAcc (pg := pg) hlim
  rw [Dec.terminate, hrun, andThen_next]
  dsimp only
  split
  · exact Adds.after (hpairAdvance_adds ⟨by exact hsum.trans_lt hlim, h.listed, h.fit⟩) hsum rfl rfl
  · exact .answer hsum rfl rfl

/-! ## Two-dimensional modes -/

theorem b2Of_le_length (ref : List Color) (a0 : Int) (color : Color) : b2Of ref a0 color ≤ ref.length := by
  unfold b2Of
  dsimp only
  split
  · exact nextChange_le_length ..
  · exact le_rfl

theorem b1_le (pg : RxPage) (d : Dec) : d.b1 pg ≤ pg.w :=
  (b1Of_le_length ..).trans_eq (expand_length d.refRuns pg.w)

theorem b2_le (pg : RxPage) (d : Dec) : d.b2 pg ≤ pg.w :=
  (b2Of_le_length ..).trans_eq (expand_length d.refRuns pg.w)

theorem start_nonneg (d : Dec) : 0 ≤ d.start := le_max_right ..

theorem pass_adds {pg : RxPage} {d : Dec} (h : CanCommit pg d) (hlim : d.rowLen + pg.w < Config.runLimit) :
    Adds pg.w d (d.pass pg) := by
  rcases lt_or_ge (d.b2 pg : Int) d.start with hback | hvalid
  · rw [pass_invalid hback]
    exact .answer (Nat.le_add_right ..) rfl rfl
  have hb2 := b2_le pg d
  have hstart := start_nonneg d
  have hlen : d.rowLen + (d.b2 pg - d.start).toNat ≤ d.rowLen + pg.w := by omega
  rw [pass_eq_rowEnd rfl hvalid (hlen.trans_lt hlim)]
  have hrow : Dec.rowLen { d with runAcc := d.runAcc + (d.b2 pg - d.start).toNat, a0 := d.b2 pg } ≤ d.rowLen + pg.w :=
    (Nat.add_assoc ..).ge.trans hlen
  exact (t6RowEndCheck_adds ⟨hrow.trans_lt hlim, h.listed, h.fit⟩).after hrow rfl rfl

theorem vertical_adds {pg : RxPage} {off : Int} {d : Dec} (h : CanCommit pg d) (hoff : off ≤ 3)
    (hlim : d.rowLen + (pg.w + 3) < Config.runLimit) : Adds (pg.w + 3) d (d.vertical off pg) := by
  rcases lt_or_ge ((d.b1 pg : Int) + off) d.start with hback | hvalid
  · rw [vertical_invalid hback]
    exact .answer (Nat.le_add_right ..) rfl rfl
  have hb1 := b1_le pg d
  have hstart := start_nonneg d
  have hlen : d.rowLen + (d.b1 pg + off - d.start).toNat ≤ d.rowLen + (pg.w + 3) := by omega
  rw [vertical_eq_rowEnd rfl hvalid (hlen.trans_lt hlim)]
  have hrow := (appendRun_runAcc (pg := pg) (hlen.trans_lt hlim)).2.trans hlen
  exact Adds.after (t6RowEndCheck_adds ⟨by exact hrow.trans_lt hlim, h.listed, h.fit⟩) hrow rfl rfl

/-! ## End of line -/

theorem eol_adds {pg : RxPage} {d : Dec} (h : CanCommit pg d) (tag : Option Bool) : Adds 0 d (d.eol tag pg) := by
  have hrow : Adds 0 d (Dec.eolRow pg { d.drop (eolBits tag) with skip := 0 }) := by
    unfold Dec.eolRow
    split
    · exact .answer (Nat.zero_le _) rfl rfl
    split
    · have hcommit := commitRow_adds (d := { d.drop (eolBits tag) with skip := 0 }) ⟨h.total, h.listed, h.fit⟩
      exact hcommit.before (fun _ => le_rfl) (fun _ => rfl) fun _ => rfl
    · exact .answer (Nat.zero_le _) rfl rfl
  exact hrow.before (fun _ => le_rfl) (fun _ => rfl) fun _ => rfl

/-! ## Decisions -/

/-- The most pixels that one code word adds to a row: a make-up code 2560, a Pass the width, a Vertical three more. -/
def RxPage.pixels (pg : RxPage) : Nat := pg.w + 2563

/-- A code word answers below the bounds. -/
theorem CodeOp.adds {f : RxPage → Dec → Res Dec} {pg : RxPage} {d : Dec} (hf : CodeOp f) (h : CanCommit pg d)
    (hlim : d.rowLen + pg.pixels < Config.runLimit) : Adds pg.pixels d (f pg d) := by
  have hbound {n : Nat} (hn : n ≤ pg.pixels) : d.rowLen + n < Config.runLimit := by omega
  cases hf with
  | terminating hn =>
    have hle : _ ≤ pg.pixels := hn.trans (by rw [RxPage.pixels]; omega)
    exact Adds.mono (terminate_adds (d := d.matched _) ⟨h.total, h.listed, h.fit⟩ (hbound hle)) hle
  | makeup hn =>
    have hle : _ ≤ pg.pixels := hn.trans (by rw [RxPage.pixels]; omega)
    exact Adds.mono (addRun_adds (d := d.matched _) (hbound hle)) hle
  | vertical hoff =>
    have hle : pg.w + 3 ≤ pg.pixels := Nat.add_le_add_left (by decide) _
    exact Adds.mono (vertical_adds (d := d.matchedMode _) ⟨h.total, h.listed, h.fit⟩ hoff (hbound hle)) hle
  | pass =>
    have hle : pg.w ≤ pg.pixels := Nat.le_add_right ..
    exact Adds.mono (pass_adds (d := d.matchedMode 4) ⟨h.total, h.listed, h.fit⟩ (hbound hle)) hle
  | horiz | ext2d | null2d => exact .answer (Nat.le_add_right ..) rfl rfl
  | eol tag => exact (eol_adds h _).mono (Nat.zero_le _)

/-- A decision answers below the bounds (R204). -/
theorem decide1_adds {s : State} {pg : RxPage} (hp : rxPage s = .next pg) (h : CanCommit pg s.dec)
    (hlim : s.dec.rowLen + pg.pixels < Config.runLimit) :
    ∃ d, decide1 s = .next (s.withDec d) ∧ Adds pg.pixels s.dec (.next d) := by
  have honRow {f : RxPage → Dec → Res Dec} (hf : Adds pg.pixels s.dec (f pg s.dec)) :
      ∃ d, onRow s f = .next (s.withDec d) ∧ Adds pg.pixels s.dec (.next d) := by
    obtain ⟨d, hd, hadds⟩ := hf
    exact ⟨d, by rw [onRow_eq hp, hd, andThen_next], d, rfl, hadds⟩
  rw [decide1_eq]
  cases hdecision : s.dec.decision with
  | code i =>
    obtain ⟨f, hf, hexec⟩ := runsCodeOp (isCodeWord_of_decision hdecision)
    dsimp only
    rw [hexec]
    exact honRow (hf.adds h hlim)
  | skip | hunt | unmatched => exact honRow (.answer (Nat.le_add_right ..) rfl rfl)

/-! ## Received bits -/

/-- What `n` more received bits cannot exhaust: the bit counter, the row counter and the row's total (R12, R333). -/
structure Budget (pg : RxPage) (n : Nat) (d : Dec) : Prop where
  bits : d.pageBits + n < Config.wordLimit
  rows : d.rows + n < Config.wordLimit
  total : d.rowLen + n * pg.pixels < Config.runLimit

/-- A bit that added no more than its share leaves the budget of the others. -/
theorem Budget.next {pg : RxPage} {n : Nat} {d t : Dec} (h : Budget pg (n + 1) d) (hlen : t.rowLen ≤ d.rowLen + pg.pixels)
    (hrows : t.rows ≤ d.rows + 1) (hbits : t.pageBits ≤ d.pageBits + 1) : Budget pg n t where
  bits := by
    have := h.bits
    omega
  rows := by
    have := h.rows
    omega
  total := by
    have := h.total
    rw [Nat.succ_mul] at this
    omega

/-- A received bit answers within its budget (R200 to R203). -/
theorem decodeBit_answers {s : State} {pg : RxPage} {n : Nat} (b : Bool) (hp : rxPage s = .next pg)
    (hinv : BitInv pg s.dec) (h : Budget pg (n + 1) s.dec) :
    ∃ t, decodeBit b s = .next t ∧ Budget pg n t.dec := by
  by_cases hover : s.dec.complete = true ∨ s.dec.nomem = true
  · exact ⟨s, decodeBit_discard b hover, h.next (Nat.le_add_right ..) (Nat.le_succ _) (Nat.le_succ _)⟩
  obtain ⟨hc, hn⟩ : s.dec.complete = false ∧ s.dec.nomem = false := by simpa using hover
  have hbits : s.dec.pageBits + 1 < 2 ^ 32 := (Nat.add_le_add_left (Nat.le_add_left ..) _).trans_lt h.bits
  have hcount : ¬ Config.winMin ≤ s.dec.winCount := by simpa [Dec.ready, hc, hn] using hinv.waits
  rcases Nat.lt_or_ge (s.dec.winCount + 1) 13 with hwait | hfull
  · exact ⟨_, decodeBit_wait b hc hn hwait hbits, h.next (Nat.le_add_right ..) (Nat.le_succ _) le_rfl⟩
  have htwelve : s.dec.winCount = 12 :=
    Nat.le_antisymm (Nat.le_of_lt_succ (Nat.not_le.mp hcount)) (Nat.le_of_succ_le_succ hfull)
  rw [decodeBit_decides b hc hn htwelve hbits]
  have hcommit : CanCommit pg (s.dec.append b) :=
    ⟨hinv.page.row.total, hinv.page.image.listed, (Nat.add_le_add_left (Nat.le_add_left ..) _).trans_lt h.rows⟩
  have hlim : (s.dec.append b).rowLen + pg.pixels < Config.runLimit :=
    (Nat.add_le_add_left (Nat.le_mul_of_pos_left _ n.succ_pos) _).trans_lt h.total
  obtain ⟨d, hd, t, ht, hlen, hrows, hpage⟩ := decide1_adds (s := s.withDec (s.dec.append b)) hp hcommit hlim
  cases ht
  exact ⟨_, hd, h.next hlen hrows hpage.le⟩

/-- Received bits answer within their budget (R148). -/
theorem decodeBits_answer {s : State} {pg : RxPage} {bits : List Bool} (hp : rxPage s = .next pg)
    (hinv : BitInv pg s.dec) (h : Budget pg bits.length s.dec) : ∃ t, decodeBits bits s = .next t := by
  induction bits generalizing s with
  | nil => exact ⟨s, rfl⟩
  | cons b bits ih =>
    obtain ⟨u, hu, hbudget⟩ := decodeBit_answers b hp hinv h
    have hruns := decodeBit_runs hu
    rw [decodeBits, hu, andThen_next]
    exact ih ((rxPage_congr hruns.par hruns.setup).trans hp) (hruns.keeps pg hp hinv) hbudget

/-- Settles O28: a sound decoder with room below the bounds has the budget of the command's bits. -/
theorem putCommandsComplete : Obligations.PutCommandsComplete := by
  intro i s m w hi hpage hpar hdec hcount hbits hrows htotal
  have hp := rxPage_of_inRxPage hpage
  have hwaits : s.dec.ready = false := by simp [Dec.ready, Config.winMin, Nat.not_le.mpr (Nat.lt_succ_of_le hcount)]
  have hinv : BitInv (rxPageOf s m w) { s.dec with invalid := false } := ⟨{ hdec.pageInv hpar hp with }, hwaits⟩
  have hbudget : Budget (rxPageOf s m w) (putBitsOf i).length { s.dec with invalid := false } := by
    refine ⟨hbits, (Nat.le_add_right _ 13).trans_lt hrows, lt_of_le_of_lt ?_ htotal⟩
    exact Nat.add_le_add_left (Nat.mul_le_mul_right _ (Nat.le_add_right ..)) _
  obtain ⟨t, ht⟩ := decodeBits_answer (s := s.withDec { s.dec with invalid := false }) hp hinv hbudget
  refine ⟨t.withResult (.status (putStatus t.dec)), ?_, rfl⟩
  rw [exec_put_eq hi hp, putBits, hp, andThen_next, ht, andThen_next]

end Sys2Proof.Machine
end

section
/-! PROOFS. The page buffer's own rules (R260 to R276) and its end of page (R274, R277, R307): the patch case by case, the
commit of a good row, the rows that a code word adds, the snapshot. -/

namespace Sys2Proof.Machine

/-! ## The patch, case by case (R263 to R268) -/

/-- Extending the last run leaves the runs before it (R264). -/
theorem extendLast_append_singleton (n : Nat) (front : List Nat) (r : Nat) :
    extendLast n (front ++ [r]) = front ++ [r + n] := by
  induction front with
  | nil => rfl
  | cons x front ih =>
    cases front with
    | nil => rfl
    | cons y front => exact congrArg (x :: ·) ih

/-- Truncation keeps the runs left of the width and cuts the run that reaches it (R267). -/
theorem truncateRuns_append_cons {room : Nat} {front : List Nat} (r : Nat) (back : List Nat) (hfront : front.sum < room)
    (hreach : room ≤ front.sum + r) : truncateRuns room (front ++ r :: back) = front ++ [room - front.sum] := by
  induction front generalizing room with
  | nil => exact if_pos (by simpa using hreach)
  | cons x front ih =>
    rw [List.sum_cons] at hfront hreach ⊢
    rw [List.cons_append, truncateRuns, if_neg (by omega), ih (by omega) (by omega), Nat.sub_sub, List.cons_append]

theorem patchRuns_of_sum {w : Nat} {runs : List Nat} (h : runs.sum = w) : patchRuns w runs = runs := if_pos h

theorem patchRuns_nil {w : Nat} (h : 0 < w) : patchRuns w [] = [w] := by
  rw [patchRuns, if_neg (by simpa using h.ne), if_pos rfl]

/-- A short row that ends on black has its last run extended, one that ends on white a black pixel (R264 to R266). -/
theorem patchRuns_of_short {w : Nat} {runs : List Nat} (hne : runs ≠ []) (h : runs.sum < w) :
    patchRuns w runs = if runs.length % 2 = 0 then extendLast (w - runs.sum) runs
      else runs ++ if w - runs.sum = 1 then [1] else [1, w - runs.sum - 1] := by
  rw [patchRuns, if_neg h.ne, if_neg hne, if_pos h, apply_ite (runs ++ ·)]

theorem patchRuns_of_long {w : Nat} {runs : List Nat} (h : w < runs.sum) : patchRuns w runs = truncateRuns w runs := by
  have hne : runs ≠ [] := by
    rintro rfl
    exact Nat.not_lt_zero w h
  rw [patchRuns, if_neg h.ne', if_neg hne, if_neg h.not_gt]

/-- Settles O43: the sum is the invariant's, and each case is a branch of the patch. -/
theorem patchMakesTheWidth : Obligations.PatchMakesTheWidth := by
  refine fun w runs => ⟨sum_patchRuns w runs, patchRuns_of_sum, fun hnil hw => hnil ▸ patchRuns_nil hw,
    fun front r hruns hshort => ?_, fun front r back hruns hlong hfront hreach => ?_⟩
  · have hne : runs ≠ [] := by simp [hruns]
    have hlen : runs.length = front.length + 1 := by simp [hruns]
    rw [patchRuns_of_short hne hshort]
    refine ⟨fun hodd => ?_, fun heven => ?_⟩
    · rw [if_pos (by omega), hruns, extendLast_append_singleton]
    · rw [if_neg (by omega)]
  · rw [patchRuns_of_long hlong, hruns, truncateRuns_append_cons r back hfront hreach]

/-! ## The good row -/

/-- A row is good by its sum and by its overflow flag (R261). -/
theorem rowGood_iff {pg : RxPage} {d : Dec} : d.rowGood pg = true ↔ d.curRuns.sum = pg.w ∧ d.overflow = false := by
  simp [Dec.rowGood]

/-- Closing a row takes the open run, where the RunArray has room for it (R215, R260). -/
theorem closeRow_of_free {pg : RxPage} {d : Dec} {runs : List Nat}
    (hruns : runs = if 0 < d.runAcc then d.curRuns ++ [d.runAcc] else d.curRuns)
    (hfree : 0 < d.runAcc → d.curRuns.length < pg.runsCap - 2) (hsum : runs.sum < Config.runLimit) :
    d.closeRow pg = .next { d with curRuns := runs } := by
  rcases Nat.eq_zero_or_pos d.runAcc with hclosed | hopen
  · obtain rfl : runs = d.curRuns := by rw [hruns, if_neg (by omega)]
    exact closeRow_of_closed hclosed
  · obtain rfl : runs = d.curRuns ++ [d.runAcc] := by rw [hruns, if_pos hopen]
    rw [closeRow_of_open hopen, appendRun_eq (hfree hopen) (by simpa using hsum)]

/-- Settles O40: the closed row is good, so its own pixels are stored. -/
theorem commitStoresAGoodRow : Obligations.CommitStoresAGoodRow := by
  intro pg d runs hruns hsum hw hover hfree hroom hfit
  have hclose := closeRow_of_free hruns hfree (hsum.trans_lt hw)
  have hgood : Dec.rowGood pg { d with curRuns := runs } = true := rowGood_iff.mpr ⟨hsum, hover⟩
  rw [commitRow_of_data (growImage_of_room hroom.ne) hclose (if_pos hgood) hfit, storeRow_of_good hgood, countBits_eq]
  rfl

/-! ## The rows that a code word adds (R274, R276) -/

/-- The registers that a stored row changes, and the row sink's user data. -/
structure PageBuffer where
  rows : Nat
  img : Memory
  ref : List Nat
  sink : List SinkCall
  userData : Nat

/-- The page buffer of a decoder. -/
def Dec.buffer (d : Dec) : PageBuffer := ⟨d.rows, d.img, d.refRuns, d.sink, d.userData⟩

/-- A page buffer with one more row of bytes, which leaves a reference (R260, R270, R274). -/
def PageBuffer.addRow (w : Nat) (data : List Byte) (ref : List Nat) (b : PageBuffer) : PageBuffer where
  rows := b.rows + 1
  img := memWrite b.img (b.rows * bytesPerRow w) data
  ref := ref
  sink := b.sink ++ [⟨b.userData, some data, bytesPerRow w⟩]
  userData := b.userData

/-- One page buffer comes from another by storing nothing, or one row of the width. -/
def PageBuffer.AtMostOneRow (w : Nat) (b c : PageBuffer) : Prop :=
  c = b ∨ ∃ data ref, data.length = bytesPerRow w ∧ ref.sum = w ∧ c = b.addRow w data ref

/-- Bytes outside the added row read as before (R276). -/
theorem PageBuffer.readByte_addRow_outside {w a : Nat} {data : List Byte} (ref : List Nat) (b : PageBuffer)
    (hlen : data.length = bytesPerRow w) (ha : a < b.rows * bytesPerRow w ∨ (b.rows + 1) * bytesPerRow w ≤ a) :
    readByte (b.addRow w data ref).img a = readByte b.img a := by
  rcases ha with hbelow | habove
  · exact readByte_memWrite_below _ _ hbelow
  · exact readByte_memWrite_above _ _ (by rwa [hlen, ← Nat.succ_mul])

/-- The added row reads as the bytes stored. -/
theorem PageBuffer.readByte_addRow_at {w j : Nat} {data : List Byte} (ref : List Nat) (b : PageBuffer)
    (hj : j < data.length) : readByte (b.addRow w data ref).img (b.rows * bytesPerRow w + j) = data[j]? :=
  (readByte_memWrite_at _ _ _ hj).trans (List.getElem?_eq_getElem hj).symm

/-- A commit stores nothing, where no memory is found, or its row (R260, R272). -/
theorem commitRow_atMostOneRow {pg : RxPage} {d t : Dec} (h : d.commitRow pg = .next t) :
    d.buffer.AtMostOneRow pg.w t.buffer := by
  have hgrow : (d.growImage pg).2.buffer = d.buffer := by
    rcases growImage_cases pg d with ⟨_, hgrow⟩ | ⟨_, _, hgrow⟩ | ⟨_, _, hgrow⟩ <;> rw [hgrow] <;> rfl
  rcases commitRow_eq_next h with hg | ⟨d1, d2, data, hg, h2, hdata, -, rfl⟩ <;> rw [hg] at hgrow
  · exact .inl hgrow
  · have hlen := rowData_length hdata
    obtain ⟨runs, full, rfl⟩ := closeRow_frame h2
    exact .inr ⟨data, _, hlen, sum_rowRuns .., congrArg (PageBuffer.addRow pg.w data _) hgrow⟩

theorem t6RowEndCheck_atMostOneRow {pg : RxPage} {d t : Dec} (h : d.t6RowEndCheck pg = .next t) :
    d.buffer.AtMostOneRow pg.w t.buffer := by
  rcases t6RowEndCheck_eq_next h with rfl | ⟨-, -, u, hu, rfl⟩
  · exact .inl rfl
  · exact (commitRow_atMostOneRow hu :)

theorem hpairAdvance_atMostOneRow {pg : RxPage} {d t : Dec} (h : d.hpairAdvance pg = .next t) :
    d.buffer.AtMostOneRow pg.w t.buffer := by
  rcases hpairAdvance_eq_next h with ⟨-, rfl⟩ | ⟨-, rfl⟩ | ⟨-, h⟩
  · exact .inl rfl
  · exact .inl rfl
  · exact (t6RowEndCheck_atMostOneRow h :)

theorem terminate_atMostOneRow {pg : RxPage} {n : Nat} {d t : Dec} (h : d.terminate n pg = .next t) :
    d.buffer.AtMostOneRow pg.w t.buffer := by
  obtain ⟨u, hu, h⟩ := terminate_eq_next h
  obtain ⟨runs, full, rfl⟩ := appendRun_frame hu
  rcases h with ⟨-, rfl⟩ | ⟨-, h⟩
  · exact .inl rfl
  · exact (hpairAdvance_atMostOneRow h :)

theorem pass_atMostOneRow {pg : RxPage} {d t : Dec} (h : d.pass pg = .next t) :
    d.buffer.AtMostOneRow pg.w t.buffer := by
  rcases pass_eq_next h with ⟨-, rfl⟩ | ⟨-, -, h⟩
  · exact .inl rfl
  · exact (t6RowEndCheck_atMostOneRow h :)

theorem vertical_atMostOneRow {pg : RxPage} {off : Int} {d t : Dec} (h : d.vertical off pg = .next t) :
    d.buffer.AtMostOneRow pg.w t.buffer := by
  rcases vertical_eq_next h with ⟨-, rfl⟩ | ⟨-, u, hu, h⟩
  · exact .inl rfl
  · obtain ⟨runs, full, rfl⟩ := appendRun_frame hu
    exact (t6RowEndCheck_atMostOneRow h :)

theorem eol_atMostOneRow {pg : RxPage} {tag : Option Bool} {d t : Dec} (h : d.eol tag pg = .next t) :
    d.buffer.AtMostOneRow pg.w t.buffer := by
  obtain ⟨u, hu, rfl⟩ := eol_eq_next h
  rcases eolRow_eq_next hu with ⟨-, rfl⟩ | ⟨-, -, v, hv, rfl⟩ | ⟨-, -, rfl⟩
  · exact .inl rfl
  · exact (commitRow_atMostOneRow hv :)
  · exact .inl rfl

/-- A code word commits once at most. -/
theorem CodeStep.atMostOneRow {pg : RxPage} {d t : Dec} {i : Instr} (h : CodeStep pg d i t) :
    d.buffer.AtMostOneRow pg.w t.buffer := by
  cases h with
  | terminating _ h => exact (terminate_atMostOneRow h :)
  | makeup _ h =>
    obtain ⟨-, rfl⟩ := addRun_eq_next h
    exact .inl rfl
  | vertical _ h => exact (vertical_atMostOneRow h :)
  | pass h => exact (pass_atMostOneRow h :)
  | horiz | ext2d | null2d => exact .inl rfl
  | eol h | eol1 h | eol0 h => exact eol_atMostOneRow h

/-- Settles O45: the page buffer is the same, or has the row added. -/
theorem codeWordsStoreAtMostOneRow : Obligations.CodeWordsStoreAtMostOneRow := by
  intro i s t m w hi hpage h
  obtain ⟨pg, d, hp, rfl, hstep⟩ := exec_readsCode hi h
  obtain rfl : rxPageOf s m w = pg := Host.Outcome.next.inj ((rxPage_of_inRxPage hpage).symm.trans hp)
  rcases hstep.atMostOneRow with hsame | ⟨data, ref, hlen, href, hadd⟩
  · exact .inl ⟨congrArg PageBuffer.rows hsame, congrArg PageBuffer.img hsame, congrArg PageBuffer.ref hsame,
      congrArg PageBuffer.sink hsame⟩
  · have himg : d.img = (s.dec.buffer.addRow w.toNat data ref).img := congrArg PageBuffer.img hadd
    refine .inr ⟨congrArg PageBuffer.rows hadd, (congrArg (List.sum ∘ PageBuffer.ref) hadd).trans href,
      ⟨data, hlen, congrArg PageBuffer.sink hadd, fun j hj => ?_⟩, fun a ha => ?_⟩
    · rw [State.withDec_dec, himg]
      exact s.dec.buffer.readByte_addRow_at ref (hj.trans_eq hlen.symm)
    · rw [State.withDec_dec, himg]
      exact s.dec.buffer.readByte_addRow_outside ref hlen ha

/-! ## The end of a receive page (R307) -/

/-- The snapshot of RX_END_PAGE where the counters fit their words (R307, R355). -/
theorem rxSnapshot_eq {pg : RxPage} {d : Dec} (hpages : d.stats.pages.toNat + 1 < 2 ^ 32) (hrows : d.rows < 2 ^ 32)
    (hbad : d.page.badRows < 2 ^ 32) (hlongest : d.page.longestBadRun < 2 ^ 32) (hsize : (d.pageBits + 7) / 8 < 2 ^ 32) :
    d.snapshot pg = .next
      ⟨d.stats.pages + 1, BitVec.ofNat 32 pg.w, BitVec.ofNat 32 d.rows, d.pcfg.xres.getD 0, d.pcfg.yres.getD 0,
        BitVec.ofNat 32 d.page.badRows, BitVec.ofNat 32 d.page.longestBadRun, BitVec.ofNat 32 (codeOfMode pg.mode),
        BitVec.ofNat 32 ((d.pageBits + 7) / 8)⟩ := by
  have hword : BitVec.ofNat 32 (d.stats.pages.toNat + 1) = d.stats.pages + 1 :=
    BitVec.eq_of_toNat_eq (by simp)
  simp only [Dec.snapshot, statWord_eq hpages, statWord_eq hrows, statWord_eq hbad, statWord_eq hlongest,
    statWord_eq hsize, andThen_next, hword]

/-- Nothing is committed after the page's end, after a memory failure, or where no row is in progress (R242). -/
theorem commitPartial_of_over {s : State} (h : s.dec.complete = true ∨ s.dec.nomem = true ∨ s.dec.rowLen = 0) :
    commitPartial s = .next s := by
  rcases h with hc | hrest
  · rw [commitPartial, if_neg (by simp [hc])]
  · exact commitPartial_of_none hrest

/-- Settles O21: nothing is decoded or committed, and the page closes with its snapshot. -/
theorem rxEndPageSnapshots : Obligations.RxEndPageSnapshots := by
  intro s m w hpage hdrains hover hpages hrows hbad hlongest hsize
  have hclose : execRxEndPage s = closePage (rxPageOf s m w) s := by
    rw [execRxEndPage, rxPage_of_inRxPage hpage, andThen_next, drain, drainLoop_stop hdrains, andThen_next,
      commitPartial_of_over hover, andThen_next]
  have hwidth : BitVec.ofNat 32 (rxPageOf s m w).w = w := by simp [rxPageOf]
  change execRxEndPage s = _
  rw [hclose, closePage]
  dsimp only
  rw [rxSnapshot_eq (by exact hpages) (by exact hrows) (by exact hbad) (by exact hlongest) (by exact hsize), andThen_next,
    finishRx_eq, hwidth]
  cases m <;> rfl

end Sys2Proof.Machine
end

section
/-! PROOFS. The host commands by their lifecycle register (R280 to R306, R311 to R313, R330): refused where R312 does not admit
them, and the exact next state of INIT, RELEASE, the setters, START_PAGE, RESTART_PAGE and the queries where it does. -/

namespace Sys2Proof.Machine

/-! ## A guard decides (R330) -/

theorem admitIf_pos {α : Type} {c : Bool} {r : Refusal} {k : Res α} (h : c = true) : admitIf c r k = k := if_pos h

theorem admitIf_neg {α : Type} {c : Bool} {r : Refusal} {k : Res α} (h : c = false) : admitIf c r k = .refused r :=
  if_neg (ne_true_of_eq_false h)

theorem andThen_of_refused {α β : Type} {r : Res α} {x : Refusal} {f : α → Res β} (h : r = .refused x) :
    andThen r f = .refused x := h ▸ rfl

/-! ## Refusal by the lifecycle state (R312) -/

/-- The command's guard is its entry in the table of R312: its own, or that of the page it reads. -/
theorem exec_tx_refused {i : Instr} {s : State} (hi : isTx i = true) (h : admits i s.enc.life = false) :
    exec i s = .refused (.notAdmitted s.enc.life) := by
  cases i with
  | txInit | txSetMode mode | txSetWidth width | txSetXres code | txSetYres code | txSetMinRowBits bits | txStartPage
  | txRestartPage | txNextPageDifferent | txGetStats => exact admitIf_neg h
  | txEndPage | txGetBit | txGetByte | txGetChunk maxLen buf => exact andThen_of_refused (admitIf_neg h)
  | txRelease => cases h
  | _ => cases hi

theorem exec_codeWord_refused {i : Instr} {s : State} (hi : isCodeWord i = true) (h : s.dec.life ≠ .inPage) :
    exec i s = .refused (.notAdmitted s.dec.life) := by
  obtain ⟨f, -, hrow⟩ := runsCodeOp hi
  rw [hrow, onRow_refused h]

/-- The receive channel's counterpart, with the code words. -/
theorem exec_rx_refused {i : Instr} {s : State} (hi : isTx i = false) (h : admits i s.dec.life = false) :
    exec i s = .refused (.notAdmitted s.dec.life) := by
  cases i with
  | rxInit | rxSetMode mode | rxSetWidth width | rxSetXres code | rxSetYres code | rxStartPage | rxPutChunk len buf
  | rxGetStats => exact admitIf_neg h
  | rxEndPage | rxPutBit bit | rxPutByte byte => exact andThen_of_refused (admitIf_neg h)
  | rxRelease => cases h
  | txInit | txRelease | txSetMode mode | txSetWidth width | txSetXres code | txSetYres code | txSetMinRowBits bits
  | txStartPage | txEndPage | txRestartPage | txNextPageDifferent | txGetBit | txGetByte | txGetChunk maxLen buf
  | txGetStats => cases hi
  | _ => exact exec_codeWord_refused rfl (beq_eq_false_iff_ne.mp h)

/-- Settles O24, channel by channel. -/
theorem unadmittedInstructionsAreRefused : Obligations.UnadmittedInstructionsAreRefused := by
  intro i s h
  unfold lifeFor at h ⊢
  cases hi : isTx i with
  | true =>
    rw [hi, if_pos rfl] at h
    exact exec_tx_refused hi h
  | false =>
    rw [hi, if_neg Bool.false_ne_true] at h
    exact exec_rx_refused hi h

/-! ## INIT and RELEASE (R280, R281, R300, R301) -/

/-- Settles O16: INIT passes its guard in `UNINIT`, and RELEASE, which has none, branches on it. -/
theorem initOpensAndReleaseCloses : Obligations.InitOpensAndReleaseCloses := by
  intro s
  refine ⟨fun h => ?_, fun h => ?_, fun h => ?_, fun h => ?_, fun h => ?_, fun h => ?_⟩
  · exact admitIf_pos (beq_iff_eq.mpr h)
  · change execTxRelease s = _
    rw [execTxRelease, Enc.release, if_pos h]
    rfl
  · change execTxRelease s = _
    rw [execTxRelease, Enc.release, if_neg h]
    rfl
  · exact admitIf_pos (beq_iff_eq.mpr h)
  · change execRxRelease s = _
    rw [execRxRelease, Dec.release, if_pos h]
    rfl
  · change execRxRelease s = _
    rw [execRxRelease, Dec.release, if_neg h]
    rfl

/-! ## The setters (R283 to R286, R303 to R305) -/

theorem widthAdmitted_of_range {p : Params} {x : Word} (hlow : 1 ≤ x.toNat) (hhigh : x.toNat ≤ p.wMax) :
    widthAdmitted p x = true := by
  simp [widthAdmitted, hlow, hhigh]

/-- Settles O17: outside `UNINIT` a setter passes its guard, and a width in the range passes the second one. -/
theorem settersStageOneField : Obligations.SettersStageOneField := by
  intro s x
  refine ⟨fun h => ?_, fun h => ?_⟩
  · have hset := setterAdmitted_of_ne h
    exact ⟨fun hlow hhigh => (admitIf_pos hset).trans (admitIf_pos (widthAdmitted_of_range hlow hhigh)), admitIf_pos hset,
      admitIf_pos hset, admitIf_pos hset⟩
  · have hset := setterAdmitted_of_ne h
    exact ⟨fun hlow hhigh => (admitIf_pos hset).trans (admitIf_pos (widthAdmitted_of_range hlow hhigh)), admitIf_pos hset,
      admitIf_pos hset⟩

/-! ## START_PAGE (R287, R306) -/

theorem grow_of_script {free : Nat → Bool} {a : Alloc} {ok : Bool} {rest : List Bool} (h : a.script = ok :: rest) :
    a.grow free = (ok, ⟨rest, a.draws + 1⟩) := by
  rw [Alloc.grow, h]

theorem txStartable {c : TxCfg} {m : Mode} {w : Word} (hm : c.mode = some m) (hw : c.width = some w)
    (hy : m = .t42d → c.yres.isSome) : c.startable = true := by
  cases m with
  | t42d => simp [TxCfg.startable, hm, hw, hy rfl]
  | t41d | t6 => simp [TxCfg.startable, hm, hw]

theorem rxStartable {c : RxCfg} {m : Mode} {w : Word} (hm : c.mode = some m) (hw : c.width = some w) :
    c.startable = true := by
  simp [RxCfg.startable, hm, hw]

/-- TX_START_PAGE does what the allocator's next answer says. -/
theorem txStartPage_of_script {s : State} {ok : Bool} {rest : List Bool} (hl : s.enc.life = .idle)
    (hcfg : s.enc.cfg.startable = true) (ha : s.enc.alloc.script = ok :: rest) :
    execTxStartPage s =
      if ok then s.finishTx (Enc.startPage s.par { s.enc with alloc := ⟨rest, s.enc.alloc.draws + 1⟩ }) (.status statusOk)
      else s.finishTx { s.enc with alloc := ⟨rest, s.enc.alloc.draws + 1⟩ } (.status statusNomem) := by
  rw [execTxStartPage, admitIf_pos (beq_iff_eq.mpr hl), admitIf_pos hcfg, grow_of_script ha]
  cases ok <;> rfl

/-- RX_START_PAGE does what the allocator's next answer says. -/
theorem rxStartPage_of_script {s : State} {ok : Bool} {rest : List Bool} (hl : s.dec.life = .idle)
    (hcfg : s.dec.cfg.startable = true) (ha : s.dec.alloc.script = ok :: rest) :
    execRxStartPage s =
      if ok then s.finishRx (Dec.startPage { s.dec with alloc := ⟨rest, s.dec.alloc.draws + 1⟩ }) (.status statusOk)
      else s.finishRx { s.dec with alloc := ⟨rest, s.dec.alloc.draws + 1⟩ } (.status statusNomem) := by
  rw [execRxStartPage, admitIf_pos (beq_iff_eq.mpr hl), admitIf_pos hcfg, grow_of_script ha]
  cases ok <;> rfl

/-- K is taken from the staged resolution in `T4_2D`, and kept elsewhere (R25, R287). -/
theorem kAfterStart_eq {p : Params} {c : TxCfg} {m : Mode} (hm : c.mode = some m) (hy : m = .t42d → c.yres.isSome)
    (k : Option Nat) : kAfterStart p c k = if m = .t42d then c.yres.map (kOf p) else k := by
  cases m with
  | t42d =>
    obtain ⟨y, hyres⟩ := Option.isSome_iff_exists.mp (hy rfl)
    simp [kAfterStart, hm, hyres]
  | t41d | t6 => simp [kAfterStart, hm]

/-- The registers of `Enc.startPage` that are read off the configuration. -/
theorem encStartPage_eq {p : Params} {e : Enc} {m : Mode} {w : Word} (hm : e.cfg.mode = some m)
    (hw : e.cfg.width = some w) (hy : m = .t42d → e.cfg.yres.isSome) :
    Enc.startPage p e = { e with
      life := .inPage, pcfg := e.cfg, k := if m = .t42d then e.cfg.yres.map (kOf p) else e.k,
      refRuns := [w.toNat], rowsTo1d := 0, acc := 0, accBits := 0, outBytes := 0, rowBits := 0, srcDone := false,
      termDone := false, rowReadError := false, nomem := false, outPos := 0, rows := 0, page := .initial,
      source := e.source.nextPage } := by
  rw [Enc.startPage, kAfterStart_eq hm hy, hw]
  rfl

/-- The registers of `Dec.startPage` that are read off the configuration. -/
theorem decStartPage_eq {d : Dec} {m : Mode} {w : Word} (hm : d.cfg.mode = some m) (hw : d.cfg.width = some w) :
    d.startPage = Dec.rowReset { d with
      life := .inPage, pcfg := d.cfg, win := 0, winCount := 0, skip := 0, eolCount := if m = .t6 then 0 else -1,
      complete := false, rowIs2d := decide (m = .t6), refRuns := [w.toNat], rows := 0, nomem := false, invalid := false,
      bitsInRow := 0, pageBits := 0, page := .initial } := by
  rw [Dec.startPage, hm, hw]
  cases m <;> rfl

/-- Settles O18: each channel, once for each answer of the allocator. -/
theorem startPageOpensThePage : Obligations.StartPageOpensThePage := by
  intro s m w rest
  refine ⟨fun hl hm hw hy ha => ?_, fun hl hm hw ha => ?_, fun hl hm hw hy ha => ?_, fun hl hm hw ha => ?_⟩
  · exact (txStartPage_of_script hl (txStartable hm hw hy) ha).trans
      (congrArg (fun e => s.finishTx e (.status statusOk)) (encStartPage_eq hm hw hy))
  · exact (rxStartPage_of_script hl (rxStartable hm hw) ha).trans
      (congrArg (fun d => s.finishRx d (.status statusOk)) (decStartPage_eq hm hw))
  · exact txStartPage_of_script hl (txStartable hm hw hy) ha
  · exact rxStartPage_of_script hl (rxStartable hm hw) ha

/-! ## The queries and RESTART_PAGE (R289, R290, R294, R311) -/

/-- What TX_NEXT_PAGE_DIFFERENT compares (R290). -/
theorem nextPageDifferent_iff (e : Enc) : e.nextPageDifferent = true ↔
    e.pcfg = ⟨none, none, none, none, none⟩ ∨ e.cfg.mode ≠ e.pcfg.mode ∨ e.cfg.width ≠ e.pcfg.width ∨
      e.cfg.xres ≠ e.pcfg.xres ∨ e.cfg.yres ≠ e.pcfg.yres := by
  simp only [Enc.nextPageDifferent, Bool.or_eq_true, beq_iff_eq, bne_iff_ne, TxCfg.format, TxCfg.unset, ne_eq,
    Prod.mk.injEq, not_and_or]

theorem ofBool_eq_ite {b : Bool} {p : Prop} [Decidable p] (h : b = true ↔ p) : BitVec.ofBool b = if p then 1 else 0 := by
  by_cases hp : p
  · rw [if_pos hp, h.mpr hp]
    rfl
  · rw [if_neg hp, Bool.eq_false_iff.mpr (mt h.mp hp)]
    rfl

/-- Settles O23: each command passes its guard and hands back the channel it found, but for the cursor. -/
theorem queriesAndRestart : Obligations.QueriesAndRestart := by
  intro s
  refine ⟨fun h => ⟨?_, ?_⟩, fun h => ?_, fun h => ?_⟩
  · exact admitIf_pos (bne_iff_ne.mpr h)
  · rw [← ofBool_eq_ite (nextPageDifferent_iff s.enc)]
    exact admitIf_pos (bne_iff_ne.mpr h)
  · exact admitIf_pos (bne_iff_ne.mpr h)
  · exact admitIf_pos (beq_iff_eq.mpr h)

end Sys2Proof.Machine
end

section
/-! PROOFS. The invariant at power-on (R9, R350, R352, R353). `stepKeepsTheEncoderInvariant` and
`stepKeepsTheDecoderInvariant` carry it over every step. -/

namespace Sys2Proof.Machine

/-- The model's parameters are values that the spec admits (R9, R25, R216): `W_MAX` is free above 2700 (log 7), and
the other bounds are between numerals. -/
theorem paramsOk_params : ParamsOk Config.params where
  wMax := Nat.le_add_left 2700 Config.wMaxSlack
  runMargin := by decide
  imgGrow := by decide
  outGrow := by decide
  kDefault := by decide
  kTable := by decide

/-- At power-on no page is open and `OUT` is empty, so only the bounds on the packer and the row counter are about values
(R352). -/
theorem Enc.reset_encInv (p : Params) : EncInv p .reset where
  outWf := Memory.wf_nil
  outListed := fun _ hi => absurd hi (Nat.not_lt_zero _)
  outCap := Nat.le_refl 0
  accBits := Nat.zero_le 7
  accClean := Nat.one_pos
  cfgWidth := widthOk_none p
  pageWidth := widthOk_none p
  cfgMinRowBits := rfl
  pageCfg := nofun
  pageK := nofun
  pageRef := nofun
  doneWhole := nofun
  nomemDone := nofun
  sourceDone := nofun
  errorDone := nofun
  rowsFit := Nat.two_pow_pos 32

/-- At power-on no page is open and `IMG` is empty, so only the bounds on the window, the cursors and the counters are about
values (R353, and log 11 where R353 leaves the value open). -/
theorem Dec.reset_decInv (p : Params) : DecInv p .reset where
  imgWf := Memory.wf_nil
  cfgWidth := widthOk_none p
  pageWidth := widthOk_none p
  pageCfg := nofun
  rowsCap := Nat.le_refl 0
  imgListed := nofun
  pageRef := nofun
  winCount := Nat.zero_le 13
  winClean := Nat.one_pos
  skip := Nat.zero_le 12
  eolCount := by decide
  a0 := by decide
  rowTotal := Nat.two_pow_pos 31
  runsLen := nofun
  t41dRow := nofun
  t6Row := nofun
  pair := nofun
  completeEnd := nofun
  badRows := nofun
  rowsFit := Nat.two_pow_pos 32
  pageBitsFit := Nat.two_pow_pos 32

/-- Settles O11: the parameters and each channel on its own. -/
theorem powerOnMeetsTheInvariant : Obligations.PowerOnMeetsTheInvariant where
  par := paramsOk_params
  enc := Enc.reset_encInv Config.params
  dec := Dec.reset_decInv Config.params

end Sys2Proof.Machine
end
